-- ==== Sys2Proof/Word.lean ====
section
/-! DEFINITION. The byte and the sixteen-bit word of the 6420's frames and tables (spec 11). -/

namespace Sys2Proof

/-- A byte of a link, a table bank or a journal slot. -/
abbrev Byte := BitVec 8

/-- Sixteen bits read as bits: entitlement bits, upgrade bits, the demand word (R46), a frame check (R172). -/
abbrev Bits16 := BitVec 16

end Sys2Proof
end

