-- ==== Sys2Proof/Syntax.lean ====
section
/-! DEFINITION. The commands of the 6420: one constructor for each row of spec/opcode_table.json.

A row that reports bytes received carries them. A dispatch row (PRESENT to RESTART) carries no operand: it acts
on the frame in the Terminal Link Port's input place, whose payload holds the operand (R153, log entry 4). -/

namespace Sys2Proof

/-- The two serial links (00, R172). -/
inductive Link where
  | reader
  | terminal
  deriving DecidableEq, Repr

/-- The steps of the part. `rule` in a docstring is the row's rule in the table. -/
inductive Instr where
  /-- POWER_ON (R18), with the supply-low line's state at that moment (R149). -/
  | powerOn (lowAsserted : Bool)
  /-- RECOVERY_READ_DONE (R144). -/
  | recoveryReadDone
  /-- RECOVERY_ERASE (R145). -/
  | recoveryErase
  /-- STARTED_ENTRY (R146). -/
  | startedEntry
  /-- SUPPLY_LOW_ASSERTED (R149). -/
  | supplyLowAsserted
  /-- SUPPLY_LOW_DEASSERTED (R149). -/
  | supplyLowDeasserted
  /-- PRESENTATION (R1), with the bytes that complete the frame on the reader link. -/
  | presentation (bytes : List Byte)
  /-- CONSUME_REPORT (R122), with the bytes that complete the frame on the reader link. -/
  | consumeReport (bytes : List Byte)
  /-- FRAME_CHECK_FAILED (R151), with the link and the bytes received on it. -/
  | frameCheckFailed (link : Link) (bytes : List Byte)
  /-- CONTROL_FRAME_RECEIVED (R152), with the bytes that complete the frame on the terminal link. -/
  | controlFrameReceived (bytes : List Byte)
  /-- PRESENT (R2). -/
  | present
  /-- INTAKE_FLUSH (R13). -/
  | intakeFlush
  /-- TIME (R23). -/
  | time
  /-- DEPART (R26). -/
  | depart
  /-- ARRIVE (R27). -/
  | arrive
  /-- SWITCH (R28). -/
  | switch
  /-- COACH (R33). -/
  | coach
  /-- RUN_START (R34). -/
  | runStart
  /-- LOAD_OPEN (R59). -/
  | loadOpen
  /-- STAGING_ERASE_START (R64). -/
  | stagingEraseStart
  /-- TABLE_SECTOR_ERASE_DONE (R65). -/
  | tableSectorEraseDone
  /-- HEADER_PROGRAM_DONE (R65). -/
  | headerProgramDone
  /-- LOAD_RECORD (R68). -/
  | loadRecord
  /-- RECORD_PROGRAM_DONE (R68). -/
  | recordProgramDone
  /-- LOAD_CLOSE (R69). -/
  | loadClose
  /-- CONTENT_CHECK_DONE (R69). -/
  | contentCheckDone
  /-- LOAD_COMMIT_NOW (R70). -/
  | loadCommitNow
  /-- LOAD_COMMIT_TIME (R70). -/
  | loadCommitTime
  /-- COMMIT_BEGIN (R72). -/
  | commitBegin
  /-- COMMIT_MARK_DONE (R72). -/
  | commitMarkDone
  /-- LOAD_ABANDON (R74). -/
  | loadAbandon
  /-- EXPORT_READ (R140). -/
  | exportRead
  /-- EXPORT_MARK (R142). -/
  | exportMark
  /-- NOTE (R143). -/
  | note
  /-- SHUTDOWN (R147). -/
  | shutdown
  /-- CLOSED_ENTRY (R147). -/
  | closedEntry
  /-- CONFIG (R160). -/
  | config
  /-- QUERY_STATUS (R162). -/
  | queryStatus
  /-- QUERY_DIRECTORY (R161). -/
  | queryDirectory
  /-- QUERY_HISTORY (R161). -/
  | queryHistory
  /-- QUERY_MEMORY (R119). -/
  | queryMemory
  /-- RESTART (R163). -/
  | restart
  /-- DRAIN_END (R163). -/
  | drainEnd
  /-- WARM_RESTART_EFFECT (R164). -/
  | warmRestartEffect
  /-- MINUTE_TICK (R20). -/
  | minuteTick
  /-- EVALUATION_BEGIN (R78). -/
  | evaluationBegin
  /-- CHECK_COMPLETION (R80). -/
  | checkCompletion
  /-- WAITING_ENTRY_QUEUED (R132). -/
  | waitingEntryQueued
  /-- VERDICT_ISSUE (R96). -/
  | verdictIssue
  /-- ENTRY_PROGRAM_START (R133). -/
  | entryProgramStart
  /-- ENTRY_PROGRAM_DONE (R133). -/
  | entryProgramDone
  /-- HEAD_MOVE (R134). -/
  | headMove
  /-- JOURNAL_ERASE_START (R136). -/
  | journalEraseStart
  /-- JOURNAL_SECTOR_ERASE_DONE (R135). -/
  | journalSectorEraseDone
  /-- CONSUME_WINDOW_EXPIRY (R121). -/
  | consumeWindowExpiry
  /-- PATTERN_COMPLETION (R169). -/
  | patternCompletion
  /-- READER_TX_DONE (R11). -/
  | readerTxDone
  /-- TERMINAL_TX_DONE (R158). -/
  | terminalTxDone
  /-- POWER_LOSS (R150). -/
  | powerLoss
  /-- NOTE_END (R167). -/
  | noteEnd
  deriving DecidableEq, Repr

end Sys2Proof
end

