-- ==== Sys2Proof/Decode.lean ====
section
/-! DEFINITION. The decoder of a command from the table's bits. No row of spec/opcode_table.json has bits
("fields" is empty in every row), so no word spells a command. The frames that carry control payloads are
read in Machine/Frames.lean and Machine/Operands.lean. -/

namespace Sys2Proof

/-- The command that a word spells by the table's bits: none, because no row gives bits. -/
def decodeTableWord (_nbits _w : Nat) : Option Instr := none

end Sys2Proof
end

