-- ==== Sys2Proof/Config.lean ====
section
/-! DEFINITION. What one part fixes and the free values: constants without a body, so that nothing proved
rests on a value the manual does not give (log entries 12, 13 and 14). -/

namespace Sys2Proof

/-- What a cut erase leaves of one programmed journal slot (R145: some old entries may stay readable). -/
inductive CutFate where
  | kept
  | erased
  | torn
  deriving DecidableEq, Repr, Inhabited

/-- The silicon revision number of the STATUS reply (R162 gives no value). Log entry 13. -/
opaque Config.siliconRevision : Byte

/-- The manifest position byte of a LOAD_OPEN refused over its generation (argument 0) or over a missing
segment (argument 1), cases in which no declaration is at fault (R59, R60). Log entry 12. -/
opaque Config.openRefusalPosition : Nat → Byte

/-- Whether a commit mark whose program was in flight when the supply was lost had been completed
(R75, rows four and five), drawn by occurrence. Log entry 14. -/
opaque Config.markCompletedAtLoss : Nat → Bool

/-- What the byte at an address reads after a table erase or record program was cut by a loss of supply,
by occurrence and address (R75). Log entry 14. -/
opaque Config.cutTableByte : Nat → Nat → Byte

/-- What a journal erase cut by a loss of supply left of a slot, by occurrence and slot (R145).
Log entry 14. -/
opaque Config.cutJournalSlot : Nat → Nat → CutFate

/-- A slot that a cut journal erase left neither erased nor complete, so that the sector is damaged
(R144, R150), by occurrence. Log entry 14. -/
opaque Config.cutJournalTornSlot : Nat → Fin 64

end Sys2Proof
end

