-- ==== Sys2Proof/Machine/State.lean ====
section
/-! DEFINITION. The state of the 6420 as plain data: every register, queue, buffer, list and flash array the
manual gives its ten blocks, the reasons a step can stop, and the state after reset. -/

namespace Sys2Proof.Machine

/-! ## Common items -/

/-- Service time (00 Conventions): day 0..65535, minute 0..1919. -/
structure Time where
  day : Nat
  minute : Nat
  deriving DecidableEq, Repr

/-- A credential's key (00 Terms): authority and serial. -/
structure Key where
  auth : Nat
  serial : Nat
  deriving DecidableEq, Repr

/-- Where a presentation came from (R1, R2). -/
inductive Source where
  | reader
  | keyed
  deriving DecidableEq, Repr

/-- The medium of a credential (01 section 1.1). -/
inductive Medium where
  | card
  | code
  | paper
  deriving DecidableEq, Repr

/-- Passenger category (01 section 1.1). -/
inductive Category where
  | adult
  | reduced
  | child
  | senior
  deriving DecidableEq, Repr

/-- A presentation record (01 section 1.1), complete as the queue holds it (R4). -/
structure Presentation where
  source : Source
  tag : Nat
  intakeTime : Time
  medium : Medium
  key : Key
  product : Nat
  validStart : Time
  validEnd : Time
  origin : Option Nat
  destination : Option Nat
  zones : List (Nat × Nat)
  category : Category
  count : Nat
  clamped : Bool
  trips : Option Nat
  upgrades : Option Bits16
  attested : Bool
  deriving DecidableEq, Repr

/-- The hold causes in force (R10). -/
structure HoldCauses where
  depth : Bool
  safe : Bool
  shutdown : Bool
  restarting : Bool
  deriving DecidableEq, Repr

/-- The train's position (02 section 2.3). `between k` is BETWEEN(k, k+1). -/
inductive PosState where
  | unknown
  | atStop (k : Nat)
  | between (k : Nat)
  deriving DecidableEq, Repr

/-- One entry of the departure history (02 section 2.4). -/
structure Departure where
  route : Nat
  index : Nat
  code : Nat
  auth : Nat
  zone : Nat
  time : Time
  deriving DecidableEq, Repr

/-! ## Verdicts -/

/-- Verdict class (R94). -/
inductive VClass where
  | accept
  | acceptGrace
  | supplementDue
  | refer
  | reject
  deriving DecidableEq, Repr

/-- Verdict reason (R94). -/
inductive Reason where
  | valid
  | recheck
  | begunBeforeExpiry
  | gracePeriod
  | extension
  | noTables
  | unknownIssuer
  | unverified
  | unknownProduct
  | passengerCount
  | duplicate
  | noPosition
  | entitlement
  | expiredUncertain
  | memoryFull
  | consumeBusy
  | revoked
  | notYetValid
  | expired
  | noCover
  | noTrips
  deriving DecidableEq, Repr

/-- Reason detail (R94): absent, the missing bits of ENTITLEMENT, or the stop and time of
BEGUN_BEFORE_EXPIRY. -/
inductive Detail where
  | absent
  | missing (bits : Bits16)
  | begun (code : Nat) (time : Time)
  deriving DecidableEq, Repr

/-- The verdict flags (R94). -/
structure VFlags where
  recheck : Bool
  grace : Bool
  unremembered : Bool
  unjournaled : Bool
  saturated : Bool
  historyShort : Bool
  countClamped : Bool
  pendingConsume : Bool
  noPosition : Bool
  deriving DecidableEq, Repr

/-- One item of a runs list (R110). -/
structure RunItem where
  auth : Nat
  zones : Nat
  amount : Nat
  deriving DecidableEq, Repr

/-- The verdict record (R94). -/
structure Verdict where
  tag : Nat
  cls : VClass
  reason : Reason
  detail : Detail
  flags : VFlags
  amount : Nat
  consume : Bool
  runs : List RunItem
  generation : Nat
  seq : Option Nat
  coach : Nat
  route : Option Nat
  stopIndex : Option Nat
  pos : PosState
  deriving DecidableEq, Repr

/-! ## Journal entries -/

/-- Outcome of a consume instruction (R124, R125). -/
inductive ConsumeOutcome where
  | written
  | notWritten
  | timedOut
  | takenLate
  | cleared
  deriving DecidableEq, Repr

/-- Trip state of a memory entry (R112). -/
inductive TripState where
  | none
  | pending
  | taken
  deriving DecidableEq, Repr

/-- Whether a commit was immediate or scheduled (R73). -/
inductive CommitKind where
  | immediate
  | scheduled
  deriving DecidableEq, Repr

/-- The cause a STARTED entry carries (R146). -/
inductive StartCause where
  | powerOnOrderly
  | powerOnAbrupt
  | warm
  deriving DecidableEq, Repr

/-- Kind and payload of a journal entry (R130). -/
inductive EntryBody where
  | verdict (v : Verdict) (source : Source) (medium : Medium) (key : Key) (product : Nat)
  | consume (tag : Nat) (key : Key) (outcome : ConsumeOutcome)
  | runStart
  | commit (generation epochDay previous : Nat) (kind : CommitKind)
  | depart (route index code : Nat) (time : Time)
  | note (bytes : List Byte)
  | mark (value : Nat)
  | started (cause : StartCause) (generation : Nat)
  | closed
  deriving DecidableEq, Repr

/-- A journal entry (R130). -/
structure Entry where
  seq : Nat
  time : Time
  run : Nat
  body : EntryBody
  deriving DecidableEq, Repr

/-- An entry offered and not yet queued: its payload, and its run number where that is fixed before the
queueing (R130: VERDICT, CONSUME). -/
structure Draft where
  body : EntryBody
  run : Option Nat
  deriving DecidableEq, Repr

/-! ## Links -/

/-- A tap result to the reader (spec 11.3). -/
inductive TapResult where
  | verdict (tag : Nat) (cls : VClass) (reason : Reason) (amount : Nat) (consume : Bool)
  | notReadTag (tag : Nat)
  | notRead
  deriving DecidableEq, Repr

/-- A frame sent on the reader link (R1). -/
inductive ReaderFrame where
  | tap (t : TapResult)
  | hold
  | resume
  deriving DecidableEq, Repr

/-- Response status (R155). -/
inductive Status where
  | ok
  | okClamped
  | busy
  | badState
  | badArg
  | noRoom
  | overlap
  | conflict
  | closeFailed
  deriving DecidableEq, Repr

/-- Response mark (R155). -/
inductive ReplyMark where
  | none
  | unjournaled
  | abandoned
  | restarted
  deriving DecidableEq, Repr

/-- What an owner gives a response: status, mark, and the content bytes of spec 11.5. -/
structure Reply where
  status : Status
  mark : ReplyMark
  content : List Byte
  deriving DecidableEq, Repr

/-- An entry of the response queue (R154): the class answered, and the reply once produced. -/
structure Response where
  cls : Nat
  reply : Option Reply
  deriving DecidableEq, Repr

/-- Reason of a DISCARDED notice (R3, R8, R13, R14). -/
inductive DiscardReason where
  | malformed
  | queueFull
  | flush
  | runStart
  deriving DecidableEq, Repr

/-- Why the Journal is FULL (R131, R137). -/
inductive FullCause where
  | noSector
  | exhausted
  deriving DecidableEq, Repr

/-- Role of a table bank (R55). -/
inductive BankRole where
  | active
  | staging
  | retiring
  deriving DecidableEq, Repr

/-- Kind and content of a notice (09 section 9.4), fields in the order the placing rule names them. -/
inductive NoticeBody where
  | discarded (reason : DiscardReason) (source : Source) (tag : Option Nat) (key : Option Key) (time : Time)
  | holdState (on : Bool) (causes : HoldCauses)
  | clockCorrected (old new : Time) (discarded : Nat)
  | positionLost (pos : PosState) (route length generation : Nat)
  | commitDone (generation epochDay previous : Nat) (kind : CommitKind) (bank : Nat) (other : BankRole)
  | journalFull (cause : FullCause) (dropped headSector mark highest highestAhead : Nat)
  | journalAvailable (sector mark : Nat)
  | consumeResolved (tag : Nat) (key : Key) (outcome : ConsumeOutcome) (trip : Option TripState)
      (seq : Option Nat)
  | supplySafe
  | supplyNormal
  | started (cause : StartCause) (seq : Option Nat) (bank : Option Nat) (generation epochDay : Nat)
      (headSector headSlot mark highest oldest erased : Nat) (supplyLow : Bool)
  deriving DecidableEq, Repr

/-- A notice with the service time at which it was placed (spec 11.5). -/
structure Notice where
  time : Time
  body : NoticeBody
  deriving DecidableEq, Repr

/-- A frame sent on the terminal link (R158). A notice frame carries the dropped count, 0 without OVERFLOWED. -/
inductive TermFrame where
  | response (cls : Nat) (reply : Reply)
  | verdict (v : Verdict)
  | notice (n : Notice) (overflowed : Nat)
  | journalEntry (e : Entry)
  deriving DecidableEq, Repr

/-- A control frame received whole: class and payload (R152). -/
structure ControlFrame where
  cls : Nat
  payload : List Byte
  deriving DecidableEq, Repr

/-- The Reader Link Port (R11, R151). -/
structure ReaderPort where
  rx : List Byte
  asSent : Bool
  taps : List TapResult
  sending : Option ReaderFrame
  deriving DecidableEq, Repr

/-- The Intake Queue (R5, R6, R10). -/
structure IntakeQueue where
  queue : List Presentation
  tagCounter : Nat
  causes : HoldCauses
  deriving DecidableEq, Repr

/-- The Terminal Link Port (R151 to R159), its settings apart. -/
structure TerminalPort where
  rx : List Byte
  input : Option ControlFrame
  responses : List Response
  notices : List Notice
  dropped : Nat
  verdicts : List Verdict
  stream : List Nat
  burst : Option Nat
  sending : Option TermFrame
  deriving DecidableEq, Repr

/-- Journal policy (R139). -/
inductive Policy where
  | strict
  | early
  deriving DecidableEq, Repr

/-- The six settings of CONFIG (R160). -/
structure Settings where
  window : Nat
  policy : Policy
  burst : Nat
  volume : Nat
  hold : Nat
  resume : Nat
  deriving DecidableEq, Repr

/-! ## Position Unit -/

/-- An entry waiting in the Position Unit's outgoing place (R31), with the class of the frame whose response it
holds back and the content that response carries. -/
structure PosOutgoing where
  body : EntryBody
  cls : Nat
  content : List Byte
  deriving DecidableEq, Repr

/-- The Position Unit (chapter 02). -/
structure PositionUnit where
  clock : Time
  valid : Bool
  debt : Nat
  pos : PosState
  route : Option Nat
  length : Option Nat
  history : List Departure
  wrapped : Bool
  coach : Nat
  demand : Bits16
  run : Nat
  outgoing : Option PosOutgoing
  deriving DecidableEq, Repr

/-- The position snapshot (R32). -/
structure Snapshot where
  pos : PosState
  route : Option Nat
  length : Option Nat
  coach : Nat
  demand : Bits16
  now : Time
  valid : Bool
  run : Nat
  history : List Departure
  wrapped : Bool
  deriving DecidableEq, Repr

/-! ## Table Store -/

/-- Segment kind (R60). -/
inductive SegKind where
  | routes
  | tones
  | revocation
  | rates
  | zones
  | products
  deriving DecidableEq, Repr

/-- An authority declaration of a manifest (R60). -/
structure AuthDecl where
  code : Nat
  rank : Nat
  deriving DecidableEq, Repr

/-- A segment declaration of a manifest (R60); `fixedAt` is absent for FLOATING. -/
structure SegDecl where
  kind : SegKind
  auth : Nat
  count : Nat
  fixedAt : Option Nat
  deriving DecidableEq, Repr

/-- A manifest (04 section 4.4). -/
structure Manifest where
  generation : Nat
  epochDay : Nat
  auths : List AuthDecl
  segs : List SegDecl
  deriving DecidableEq, Repr

/-- A directory entry (R63). -/
structure DirEntry where
  kind : SegKind
  auth : Nat
  count : Nat
  first : Nat
  length : Nat
  deriving DecidableEq, Repr

/-- The header of a bank without its commit mark (R56). -/
structure Header where
  manifest : Manifest
  directory : List DirEntry
  deriving DecidableEq, Repr

/-- The commit mark of a bank (R56): erased, or programmed with its generation copy and whether its check
agrees with the header and that copy. A torn mark is one whose check fails. -/
inductive CommitMark where
  | erased
  | programmed (generation : Nat) (checkAgrees : Bool)
  deriving DecidableEq, Repr

/-- A table bank (R55, R56, R58). `mem` lists the bytes that do not read 255. -/
structure Bank where
  mem : List Host.Cell
  header : Option Header
  mark : CommitMark
  role : BankRole
  pins : Nat
  deriving DecidableEq, Repr

/-- State of the load engine (04 section 4.3). -/
inductive EngineState where
  | idle
  | opening
  | loading
  | closed
  | scheduled
  | committing
  deriving DecidableEq, Repr

/-- The load in progress (04 section 4.3): `received` holds the received-record set of each segment. -/
structure Load where
  target : Nat
  manifest : Manifest
  directory : List DirEntry
  received : List (List Nat)
  deriving DecidableEq, Repr

/-- A table flash operation in flight (R65, R68, R72). A record program carries the manifest position, the
records being programmed with their indices, and the number already present. -/
inductive TableOp where
  | eraseSector (bank sector : Nat)
  | headerProgram (bank : Nat)
  | recordProgram (bank position : Nat) (records : List (Nat × List Byte)) (present : Nat)
  | markProgram (bank : Nat) (kind : CommitKind)
  deriving DecidableEq, Repr

/-- The Table Store (chapter 04). `commitDue` is a commit that has begun and whose mark program has not
started (R70, R71). -/
structure TableStore where
  bank0 : Bank
  bank1 : Bank
  engine : EngineState
  load : Option Load
  erased : Nat
  schedule : Option Time
  commitDue : Option CommitKind
  op : Option TableOp
  checking : Bool
  abandoning : Bool
  outgoing : Option EntryBody
  deriving DecidableEq, Repr

/-! ## Evaluator -/

/-- What an evaluation holds from its begin (R76, R78). -/
structure EvalContext where
  pres : Presentation
  bank : Option Nat
  generation : Nat
  snap : Snapshot
  deriving DecidableEq, Repr

/-- Where the VERDICT entry of a verdict stands (R95). -/
inductive JournalWait where
  | place
  | queued (seq : Nat)
  | completed (seq : Nat)
  | dropped
  deriving DecidableEq, Repr

/-- The Evaluator's state (R76). -/
inductive Evaluator where
  | idle
  | evaluating (c : EvalContext)
  | awaiting (c : EvalContext) (v : Verdict) (w : JournalWait)
  deriving DecidableEq, Repr

/-! ## Inspection Memory -/

/-- An entry of the Inspection Memory (R112). -/
structure Sighting where
  key : Key
  product : Nat
  time : Time
  coach : Nat
  lastClass : VClass
  trip : TripState
  deriving DecidableEq, Repr

/-- An entry of the pending-consume list (R120), its expiry on the internal time base in ms. -/
structure PendingConsume where
  tag : Nat
  key : Key
  expiry : Nat
  deriving DecidableEq, Repr

/-- A CONSUME entry of the resolution queue (R124), with the run number in force when offered. -/
structure Resolution where
  tag : Nat
  key : Key
  outcome : ConsumeOutcome
  run : Nat
  deriving DecidableEq, Repr

/-- The Inspection Memory (chapter 07). `slots` lists the slots that hold an entry. -/
structure InspectionMemory where
  slots : List (Nat × Sighting)
  pendingList : List PendingConsume
  resolutions : List Resolution
  clearDeferred : Bool
  deriving DecidableEq, Repr

/-! ## Journal -/

/-- Journal mode (R132). -/
inductive JournalMode where
  | recovering
  | opened
  | shutting
  | shut
  deriving DecidableEq, Repr

/-- A programmed journal slot (R129): part `i` of an entry, or neither erased nor complete. -/
inductive JSlot where
  | part (e : Entry) (i : Nat)
  | torn
  deriving DecidableEq, Repr

/-- The blocks that offer journal entries (R132). -/
inductive Producer where
  | evaluator
  | position
  | tables
  | memory
  | control
  deriving DecidableEq, Repr

/-- The entry in the Journal's control place (R143), with what its response needs. -/
inductive ControlItem where
  | note (bytes : List Byte)
  | mark (value : Nat) (clamped : Bool)
  | started (cause : StartCause) (generation : Nat)
  | closed
  deriving DecidableEq, Repr

/-- A journal flash operation in flight (R129). -/
inductive JournalOp where
  | program
  | erase (sector : Nat)
  deriving DecidableEq, Repr

/-- What the reading of start-up recovery found (R144 to R146): the head sector, the highest complete number,
the mark, the run number, whether the highest complete entry is CLOSED, the damaged sectors still to be
erased, and the number erased. -/
structure Recovery where
  headSector : Nat
  highest : Option Nat
  mark : Nat
  run : Nat
  closedLast : Bool
  toErase : List Nat
  erased : Nat
  deriving DecidableEq, Repr

/-- The Journal (chapter 08). `slots` lists the slots that are not erased, by sector times 64 plus slot. -/
structure Journal where
  mode : JournalMode
  full : Option FullCause
  slots : List (Nat × JSlot)
  headSector : Nat
  headSlot : Nat
  nextSeq : Nat
  mark : Nat
  queue : List Entry
  waiting : List Producer
  control : Option ControlItem
  op : Option JournalOp
  recovery : Option Recovery
  warm : Bool
  deriving DecidableEq, Repr

/-! ## Annunciator -/

/-- A note (R50): voice 1..3, pitch step 0..63 (0 a rest), duration in units of 10 ms. -/
structure Note where
  voice : Nat
  pitch : Nat
  duration : Nat
  deriving DecidableEq, Repr

/-- A pattern entry (R165): its class, urgency and records of notes. -/
structure Pattern where
  cls : VClass
  urgency : Nat
  records : List (List Note)
  deriving DecidableEq, Repr

/-- A voice (R167): the note it sounds with the moment the note ends, and the notes that follow. -/
structure Voice where
  current : Option Note
  endsAt : Nat
  rest : List Note
  deriving DecidableEq, Repr

/-- The playing pattern (R167): its three voices, the records still to play, and the moment it ends. -/
structure Playing where
  pattern : Pattern
  voice1 : Voice
  voice2 : Voice
  voice3 : Voice
  records : List (List Note)
  finish : Nat
  deriving DecidableEq, Repr

/-- The Annunciator (chapter 10), its volume apart. -/
structure Annunciator where
  playing : Option Playing
  queue : List Pattern
  deriving DecidableEq, Repr

/-! ## The machine -/

/-- The whole state. `timeBase` is the internal time base in ms since power-on and `nextTick` the moment of the
next minute tick (R20). `free` and `pending` are the model's own: the counter free values are drawn by, and
the commands waiting, first in first out. -/
structure State where
  powered : Bool
  timeBase : Nat
  nextTick : Nat
  supplyLow : Bool
  settings : Settings
  reader : ReaderPort
  intake : IntakeQueue
  position : PositionUnit
  tables : TableStore
  evaluator : Evaluator
  memory : InspectionMemory
  journal : Journal
  port : TerminalPort
  annunciator : Annunciator
  free : Nat
  pending : List Instr
  deriving DecidableEq, Repr

/-- Reasons to stop with a fault: none. The manual names no event that stops the 6420, and no command of the
model faults. -/
inductive Fault where
  deriving DecidableEq, Repr

/-- Reasons to refuse a command. -/
inductive Refusal where
  /-- Raised by `exec` for a command that has no meaning in the model yet; safe, because nothing is then
  claimed of it. -/
  | notModelled (mnemonic : String)
  deriving DecidableEq, Repr

/-- The settings at their defaults (R160). -/
def Settings.defaults : Settings :=
  { window := 30, policy := .strict, burst := 4, volume := 2, hold := 10, resume := 5 }

/-- A bank whose blocks and header area are erased. -/
def Bank.erased : Bank :=
  { mem := [], header := none, mark := .erased, role := .staging, pins := 0 }

/-- The Reader Link Port at power-on with the supply-low line deasserted (R18): its first frame, one RESUME, is
being sent. -/
def ReaderPort.initial : ReaderPort :=
  { rx := [], asSent := false, taps := [], sending := some .resume }

/-- The Intake Queue at power-on with the supply-low line deasserted (R18). -/
def IntakeQueue.initial : IntakeQueue :=
  { queue := [], tagCounter := 0,
    causes := { depth := false, safe := false, shutdown := false, restarting := false } }

/-- The Position Unit at power-on (R19, R24, R30, R33, R35). -/
def PositionUnit.initial : PositionUnit :=
  { clock := { day := 0, minute := 0 }, valid := false, debt := 0, pos := .unknown, route := none,
    length := none, history := [], wrapped := false, coach := 0, demand := 0, run := 0, outgoing := none }

/-- The Table Store at power-on with both banks erased (R57). -/
def TableStore.initial : TableStore :=
  { bank0 := Bank.erased, bank1 := Bank.erased, engine := .idle, load := none, erased := 0,
    schedule := none, commitDue := none, op := none, checking := false, abandoning := false,
    outgoing := none }

/-- The Inspection Memory at power-on (R127). -/
def InspectionMemory.initial : InspectionMemory :=
  { slots := [], pendingList := [], resolutions := [], clearDeferred := false }

/-- The Journal at power-on with its flash erased (R144). -/
def Journal.initial : Journal :=
  { mode := .recovering, full := none, slots := [], headSector := 0, headSlot := 0, nextSeq := 1, mark := 0,
    queue := [], waiting := [], control := none, op := none, recovery := none, warm := false }

/-- The Terminal Link Port at power-on (09 section 9.9). -/
def TerminalPort.initial : TerminalPort :=
  { rx := [], input := none, responses := [], notices := [], dropped := 0, verdicts := [], stream := [],
    burst := none, sending := none }

/-- The Annunciator at power-on (R171). -/
def Annunciator.initial : Annunciator :=
  { playing := none, queue := [] }

/-- The machine right after power-on with the supply-low line deasserted and its flash erased: R18 and the
reset tables of every chapter. Log entries 5 and 6 name what the manual leaves open here. -/
def State.reset : State :=
  { powered := true, timeBase := 0, nextTick := 60000, supplyLow := false, settings := Settings.defaults,
    reader := ReaderPort.initial, intake := IntakeQueue.initial, position := PositionUnit.initial,
    tables := TableStore.initial, evaluator := .idle, memory := InspectionMemory.initial,
    journal := Journal.initial, port := TerminalPort.initial, annunciator := Annunciator.initial,
    free := 0, pending := [] }

/-! ## Replacing one block -/

/-- The state with the settings replaced. -/
def State.setSettings (x : Settings) (s : State) : State := { s with settings := x }
/-- The state with the Reader Link Port replaced. -/
def State.setReader (x : ReaderPort) (s : State) : State := { s with reader := x }
/-- The state with the Intake Queue replaced. -/
def State.setIntake (x : IntakeQueue) (s : State) : State := { s with intake := x }
/-- The state with the Position Unit replaced. -/
def State.setPosition (x : PositionUnit) (s : State) : State := { s with position := x }
/-- The state with the Table Store replaced. -/
def State.setTables (x : TableStore) (s : State) : State := { s with tables := x }
/-- The state with the Evaluator replaced. -/
def State.setEvaluator (x : Evaluator) (s : State) : State := { s with evaluator := x }
/-- The state with the Inspection Memory replaced. -/
def State.setMemory (x : InspectionMemory) (s : State) : State := { s with memory := x }
/-- The state with the Journal replaced. -/
def State.setJournal (x : Journal) (s : State) : State := { s with journal := x }
/-- The state with the Terminal Link Port replaced. -/
def State.setPort (x : TerminalPort) (s : State) : State := { s with port := x }
/-- The state with the Annunciator replaced. -/
def State.setAnnunciator (x : Annunciator) (s : State) : State := { s with annunciator := x }
/-- The state with the internal time base replaced. -/
def State.setTimeBase (x : Nat) (s : State) : State := { s with timeBase := x }
/-- The state with the moment of the next minute tick replaced. -/
def State.setNextTick (x : Nat) (s : State) : State := { s with nextTick := x }
/-- The state with the supply-low line replaced. -/
def State.setSupplyLow (x : Bool) (s : State) : State := { s with supplyLow := x }
/-- The state with its queue of commands replaced. -/
def State.setPending (x : List Instr) (s : State) : State := { s with pending := x }
/-- The state with the next free value drawn. -/
def State.nextFree (s : State) : State := { s with free := s.free + 1 }

end Sys2Proof.Machine
end

