-- ==== Sys2Proof/Machine/Bytes.lean ====
section
/-! DEFINITION. Numbers, times and keys as bytes, most significant byte first (spec 11). -/

namespace Sys2Proof.Machine

/-- One byte. -/
def be1 (n : Nat) : List Byte := [BitVec.ofNat 8 n]

/-- Two bytes, most significant first. -/
def be2 (n : Nat) : List Byte := [BitVec.ofNat 8 (n / 256), BitVec.ofNat 8 n]

/-- Four bytes, most significant first. -/
def be4 (n : Nat) : List Byte := be2 (n / 65536) ++ be2 n

/-- A service time in four bytes: day, then minute. -/
def timeBytes (t : Time) : List Byte := be2 t.day ++ be2 t.minute

/-- A key in five bytes: authority, then serial. -/
def keyBytes (k : Key) : List Byte := be1 k.auth ++ be4 k.serial

/-- A yes or no in one byte. -/
def boolByte (b : Bool) : List Byte := be1 b.toNat

/-- The number in the byte at an offset, 0 past the end. -/
def u8 (p : List Byte) (i : Nat) : Nat := (p.getD i 0).toNat

/-- The number in two bytes at an offset. -/
def u16 (p : List Byte) (i : Nat) : Nat := u8 p i * 256 + u8 p (i + 1)

/-- The number in four bytes at an offset. -/
def u32 (p : List Byte) (i : Nat) : Nat := u16 p i * 65536 + u16 p (i + 2)

/-- The service time at an offset. -/
def timeAt (p : List Byte) (i : Nat) : Time := { day := u16 p i, minute := u16 p (i + 2) }

/-- The key at an offset. -/
def keyAt (p : List Byte) (i : Nat) : Key := { auth := u8 p i, serial := u32 p (i + 1) }

/-- The two bytes at an offset as sixteen bits. -/
def bits16At (p : List Byte) (i : Nat) : Bits16 := BitVec.ofNat 16 (u16 p i)

/-- Sixteen bits as two bytes. -/
def bits16Bytes (b : Bits16) : List Byte := be2 b.toNat

/-- A number in sixteen bits read as two's complement (spec 11). -/
def signed16 (n : Nat) : Int := if n < 32768 then (n : Int) else (n : Int) - 65536

end Sys2Proof.Machine
end

