-- ==== Sys2Proof/Machine/Flags.lean ====
section
/-! DEFINITION. The codes of spec 11.2: every enumeration, the verdict flags and the hold causes as sent and
received. -/

namespace Sys2Proof.Machine

/-- Medium codes. -/
def Medium.wire : Medium → Nat
  | .card => 1
  | .code => 2
  | .paper => 3

/-- The medium of a code. -/
def mediumOf : Nat → Option Medium
  | 1 => some .card
  | 2 => some .code
  | 3 => some .paper
  | _ => none

/-- Source codes. -/
def Source.wire : Source → Nat
  | .reader => 1
  | .keyed => 2

/-- The category of a code. -/
def categoryOf : Nat → Option Category
  | 1 => some .adult
  | 2 => some .reduced
  | 3 => some .child
  | 4 => some .senior
  | _ => none

/-- Class codes of verdicts. -/
def VClass.wire : VClass → Nat
  | .accept => 1
  | .acceptGrace => 2
  | .supplementDue => 3
  | .refer => 4
  | .reject => 5

/-- The verdict class of a code. -/
def vclassOf : Nat → Option VClass
  | 1 => some .accept
  | 2 => some .acceptGrace
  | 3 => some .supplementDue
  | 4 => some .refer
  | 5 => some .reject
  | _ => none

/-- Reason codes. -/
def Reason.wire : Reason → Nat
  | .valid => 1
  | .recheck => 2
  | .begunBeforeExpiry => 3
  | .gracePeriod => 4
  | .extension => 5
  | .noTables => 6
  | .unknownIssuer => 7
  | .unverified => 8
  | .unknownProduct => 9
  | .passengerCount => 10
  | .duplicate => 11
  | .noPosition => 12
  | .entitlement => 13
  | .expiredUncertain => 14
  | .memoryFull => 15
  | .consumeBusy => 16
  | .revoked => 17
  | .notYetValid => 18
  | .expired => 19
  | .noCover => 20
  | .noTrips => 21

/-- The verdict flags as their word: bit 0 RECHECK to bit 8 NO_POSITION. -/
def VFlags.wire (f : VFlags) : Nat :=
  f.recheck.toNat + 2 * f.grace.toNat + 4 * f.unremembered.toNat + 8 * f.unjournaled.toNat
    + 16 * f.saturated.toNat + 32 * f.historyShort.toNat + 64 * f.countClamped.toNat
    + 128 * f.pendingConsume.toNat + 256 * f.noPosition.toNat

/-- No verdict flag set. -/
def VFlags.clear : VFlags :=
  { recheck := false, grace := false, unremembered := false, unjournaled := false, saturated := false,
    historyShort := false, countClamped := false, pendingConsume := false, noPosition := false }

/-- Position state codes. -/
def PosState.wire : PosState → Nat
  | .unknown => 0
  | .atStop _ => 1
  | .between _ => 2

/-- The k of AT_STOP(k) or BETWEEN(k, k+1), 0 for UNKNOWN. -/
def PosState.k : PosState → Nat
  | .unknown => 0
  | .atStop k => k
  | .between k => k

/-- Consume outcome codes. -/
def ConsumeOutcome.wire : ConsumeOutcome → Nat
  | .written => 1
  | .notWritten => 2
  | .timedOut => 3
  | .takenLate => 4
  | .cleared => 5

/-- Trip state codes, 0 for an entry that is not held or a free slot. -/
def tripWire : Option TripState → Nat
  | none => 0
  | some .none => 1
  | some .pending => 2
  | some .taken => 3

/-- Status codes. -/
def Status.wire : Status → Nat
  | .ok => 1
  | .okClamped => 2
  | .busy => 3
  | .badState => 4
  | .badArg => 5
  | .noRoom => 6
  | .overlap => 7
  | .conflict => 8
  | .closeFailed => 9

/-- Response mark codes. -/
def ReplyMark.wire : ReplyMark → Nat
  | .none => 0
  | .unjournaled => 1
  | .abandoned => 2
  | .restarted => 3

/-- Segment kind codes. -/
def SegKind.wire : SegKind → Nat
  | .routes => 1
  | .tones => 2
  | .revocation => 3
  | .rates => 4
  | .zones => 5
  | .products => 6

/-- The segment kind of a code. -/
def segKindOf : Nat → Option SegKind
  | 1 => some .routes
  | 2 => some .tones
  | 3 => some .revocation
  | 4 => some .rates
  | 5 => some .zones
  | 6 => some .products
  | _ => none

/-- Journal kind codes. -/
def EntryBody.wire : EntryBody → Nat
  | .verdict .. => 1
  | .consume .. => 2
  | .runStart => 3
  | .commit .. => 4
  | .depart .. => 5
  | .note _ => 6
  | .mark _ => 7
  | .started .. => 8
  | .closed => 9

/-- STARTED cause codes. -/
def StartCause.wire : StartCause → Nat
  | .powerOnOrderly => 1
  | .powerOnAbrupt => 2
  | .warm => 3

/-- Notice kind codes. -/
def NoticeBody.wire : NoticeBody → Nat
  | .discarded .. => 1
  | .holdState .. => 2
  | .clockCorrected .. => 3
  | .positionLost .. => 4
  | .commitDone .. => 5
  | .journalFull .. => 6
  | .journalAvailable .. => 7
  | .consumeResolved .. => 8
  | .supplySafe => 9
  | .supplyNormal => 10
  | .started .. => 11

/-- Discard reason codes. -/
def DiscardReason.wire : DiscardReason → Nat
  | .malformed => 1
  | .queueFull => 2
  | .flush => 3
  | .runStart => 4

/-- The hold causes as their byte: DEPTH bit 0, SAFE bit 1, SHUTDOWN bit 2, RESTARTING bit 3. -/
def HoldCauses.wire (c : HoldCauses) : Nat :=
  c.depth.toNat + 2 * c.safe.toNat + 4 * c.shutdown.toNat + 8 * c.restarting.toNat

/-- JOURNAL_FULL cause codes. -/
def FullCause.wire : FullCause → Nat
  | .noSector => 1
  | .exhausted => 2

/-- Bank role codes. -/
def BankRole.wire : BankRole → Nat
  | .active => 1
  | .staging => 2
  | .retiring => 3

/-- Commit kind codes. -/
def CommitKind.wire : CommitKind → Nat
  | .immediate => 1
  | .scheduled => 2

/-- Load engine state codes. -/
def EngineState.wire : EngineState → Nat
  | .idle => 0
  | .opening => 1
  | .loading => 2
  | .closed => 3
  | .scheduled => 4
  | .committing => 5

/-- Journal mode codes (spec 11.5, STATUS reply). -/
def JournalMode.wire : JournalMode → Nat
  | .recovering => 0
  | .opened => 1
  | .shutting => 2
  | .shut => 3

/-- Policy codes (spec 11.5, CONFIG response). -/
def Policy.wire : Policy → Nat
  | .strict => 1
  | .early => 2

/-- The policy of a code. -/
def policyOf : Nat → Option Policy
  | 1 => some .strict
  | 2 => some .early
  | _ => none

/-- Evaluator state codes (spec 11.5, STATUS reply). -/
def Evaluator.wire : Evaluator → Nat
  | .idle => 0
  | .evaluating _ => 1
  | .awaiting .. => 2

end Sys2Proof.Machine
end

