-- ==== Sys2Proof/Machine/Sparse.lean ====
section
/-! DEFINITION. Flash and slots as canonical lists: keys strictly rising, and in a byte memory no entry equal to
what an unlisted byte reads as. -/

namespace Sys2Proof.Machine

/-- What the list holds at a key. -/
def lookupAt {α : Type} : List (Nat × α) → Nat → Option α
  | [], _ => none
  | (k, v) :: rest, a => if k = a then some v else lookupAt rest a

/-- The list with a key set, keys kept rising. -/
def putAt {α : Type} : List (Nat × α) → Nat → α → List (Nat × α)
  | [], a, v => [(a, v)]
  | (k, w) :: rest, a, v =>
    if a < k then (a, v) :: (k, w) :: rest
    else if a = k then (a, v) :: rest
    else (k, w) :: putAt rest a v

/-- The list without the keys from `lo` up to but not including `hi`. -/
def dropRange {α : Type} (l : List (Nat × α)) (lo hi : Nat) : List (Nat × α) :=
  l.filter fun e => !(decide (lo ≤ e.1) && decide (e.1 < hi))

/-- Keys strictly rising. -/
def risingKeys {α : Type} : List (Nat × α) → Bool
  | [] => true
  | [_] => true
  | a :: b :: rest => decide (a.1 < b.1) && risingKeys (b :: rest)

/-- What an unlisted byte of table flash reads as: an erased block reads as all ones (04 section 4.1). -/
def erasedByte : Byte := 255

/-- One byte of a bank. -/
def readByte (m : List Host.Cell) (a : Nat) : Byte := (lookupAt m a).getD erasedByte

/-- A bank with one byte set; writing what an unlisted byte reads as removes the entry. -/
def writeByte (m : List Host.Cell) (a : Nat) (b : Byte) : List Host.Cell :=
  if b = erasedByte then dropRange m a (a + 1) else putAt m a b

/-- Bytes read from an address upward. -/
def readBytes (m : List Host.Cell) (a : Nat) : Nat → List Byte
  | 0 => []
  | n + 1 => readByte m a :: readBytes m (a + 1) n

/-- Bytes written from an address upward. -/
def writeBytes (m : List Host.Cell) (a : Nat) : List Byte → List Host.Cell
  | [] => m
  | b :: bs => writeBytes (writeByte m a b) (a + 1) bs

/-- The canonical form of a bank's memory. -/
def Memory.wf (m : List Host.Cell) : Bool :=
  risingKeys m && m.all fun e => e.2 != erasedByte

end Sys2Proof.Machine
end

