-- ==== Sys2Proof/Machine/Records.lean ====
section
/-! DEFINITION. The records of a table bank, read from its bytes by the bank's directory (R37 to R39, R44, R48,
R49, R50, R61, R174, spec 11.7), and the lookups made in them (R38, R41, R42, R43, R47, R49, R50). -/

namespace Sys2Proof.Machine

/-- Record size in bytes (R61): a matrix row has as many bytes as its segment has rows. -/
def recordSize (kind : SegKind) (count : Nat) : Nat :=
  match kind with
  | .routes => 4
  | .tones => 20
  | .revocation => 5
  | .rates => 16
  | .zones => count
  | .products => 24

/-- Address of a record in its bank (R61): records lie one after another from byte 0 of the first block. -/
def recordAddr (e : DirEntry) (i : Nat) : Nat := e.first * 256 + i * recordSize e.kind e.count

/-- The bytes of one record. -/
def recordBytes (m : List Host.Cell) (e : DirEntry) (i : Nat) : List Byte :=
  readBytes m (recordAddr e i) (recordSize e.kind e.count)

/-- The bits that are read of the byte at an offset of a record (spec 11.7). -/
def readMask (kind : SegKind) (offset : Nat) : Byte :=
  match kind with
  | .routes => if offset = 2 then 143 else 255
  | .tones => if offset < 18 then 255 else 0
  | .revocation => 255
  | .rates => if offset < 15 then 255 else 0
  | .zones => 255
  | .products => if offset < 9 then 255 else 0

/-- What is read of the bytes of a record from an offset; the bits that spec 11.7 names as not read are ignored
(R173). -/
def readPart (kind : SegKind) (offset : Nat) : List Byte → List Byte
  | [] => []
  | b :: rest => (b &&& readMask kind offset) :: readPart kind (offset + 1) rest

/-- All records of a segment in index order. -/
def segmentRecords (m : List Host.Cell) (e : DirEntry) : List (List Byte) :=
  (List.range e.count).map (recordBytes m e)

/-- The segment of a kind and authority in a directory (R38). -/
def findSegment (d : List DirEntry) (kind : SegKind) (auth : Nat) : Option DirEntry :=
  d.find? fun e => e.kind == kind && e.auth == auth

/-- The segment of a kind and authority in a bank. -/
def bankSegment (b : Bank) (kind : SegKind) (auth : Nat) : Option DirEntry :=
  b.header.bind fun h => findSegment h.directory kind auth

/-- The records of a bank's segment, none of them when the bank has no such segment. -/
def bankRecords (b : Bank) (kind : SegKind) (auth : Nat) : List (List Byte) :=
  match bankSegment b kind auth with
  | none => []
  | some e => segmentRecords b.mem e

/-! ## Authorities -/

/-- Whether a manifest declares an authority code (R38). -/
def declaredIn (m : Manifest) (code : Nat) : Bool := m.auths.any fun a => a.code == code

/-- The zone count of an authority: the declared record count of its ZONES segment (R38). -/
def zoneCountIn (m : Manifest) (auth : Nat) : Option Nat :=
  (m.segs.find? fun d => d.kind == .zones && d.auth == auth).map SegDecl.count

/-- The issuer lookup (R38). -/
def issuerDeclared (b : Bank) (auth : Nat) : Bool :=
  match b.header with
  | none => false
  | some h => declaredIn h.manifest auth

/-! ## Stops -/

/-- A stop record (R39), its index derived from its place in the segment (R174). -/
structure StopRec where
  route : Nat
  index : Nat
  code : Nat
  auth : Nat
  zone : Nat
  border : Bool
  split : Bool
  request : Bool
  deriving DecidableEq, Repr

/-- A stop record from its four bytes, with the index given (spec 11.7). -/
def stopOf (index : Nat) (r : List Byte) : StopRec :=
  { route := u8 r 0 / 16, index := index, code := u16 r 2 % 4096, auth := u8 r 0 % 16, zone := u8 r 1 % 64,
    border := (u8 r 1).testBit 7, split := (u8 r 1).testBit 6, request := (u16 r 2).testBit 15 }

/-- The index of a record after one of a given route and index (R174). -/
def derivedIndex (before : Option (Nat × Nat)) (route : Nat) : Nat :=
  match before with
  | none => 1
  | some (r, i) => if r = route then i + 1 else 1

/-- Stop records with their derived indices (R174). -/
def stopsFrom (before : Option (Nat × Nat)) : List (List Byte) → List StopRec
  | [] => []
  | r :: rest =>
    let s := stopOf (derivedIndex before (u8 r 0 / 16)) r
    s :: stopsFrom (some (s.route, s.index)) rest

/-- The stop records of a bank's ROUTES segment. -/
def bankStops (b : Bank) : List StopRec := stopsFrom none (bankRecords b .routes 0)

/-- Stops of one route. -/
def routeStops (b : Bank) (route : Nat) : List StopRec := (bankStops b).filter fun s => s.route == route

/-- The route lookup (R41): ids 0 and above 8 are absent. -/
def routePresent (b : Bank) (route : Nat) : Bool :=
  decide (1 ≤ route) && decide (route ≤ 8) && !(routeStops b route).isEmpty

/-- The length lookup (R41). -/
def routeLength (b : Bank) (route : Nat) : Nat := (routeStops b route).length

/-- The stop lookup (R41). -/
def stopAt (b : Bank) (route index : Nat) : Option StopRec :=
  (routeStops b route).find? fun s => s.index == index

/-- The stop of a code on one route. -/
def stopOnRoute (b : Bank) (route code : Nat) : Option StopRec :=
  (routeStops b route).find? fun s => s.code == code

/-- The stop-code lookup (R42): the first stop with the code in ascending route id. -/
def stopByCode (b : Bank) (code : Nat) : Option StopRec :=
  [1, 2, 3, 4, 5, 6, 7, 8].findSome? fun r => stopOnRoute b r code

/-! ## Zones -/

/-- The distance lookup (R43): none for an undeclared authority or a zone outside 1..Z. -/
def distance (b : Bank) (auth x y : Nat) : Option Nat :=
  match bankSegment b .zones auth with
  | none => none
  | some e =>
    if 1 ≤ x ∧ x ≤ e.count ∧ 1 ≤ y ∧ y ≤ e.count then some (u8 (recordBytes b.mem e (x - 1)) (y - 1))
    else none

/-! ## Products -/

/-- Product kind (R44). -/
inductive ProductKind where
  | single
  | return
  | period
  | carnet
  | zonePass
  | networkPass
  deriving DecidableEq, Repr

/-- Coverage mode (R44). -/
inductive CoverMode where
  | originDest
  | zoneList
  | allZones
  deriving DecidableEq, Repr

/-- The product kind of a code (spec 11.2). -/
def productKindOf : Nat → Option ProductKind
  | 1 => some .single
  | 2 => some .return
  | 3 => some .period
  | 4 => some .carnet
  | 5 => some .zonePass
  | 6 => some .networkPass
  | _ => none

/-- The coverage mode of a code (spec 11.2). -/
def coverModeOf : Nat → Option CoverMode
  | 1 => some .originDest
  | 2 => some .zoneList
  | 3 => some .allZones
  | _ => none

/-- A product record (R44). The honored-by set is its byte: bit a − 1 for authority a. -/
structure ProductRec where
  code : Nat
  kind : ProductKind
  mode : CoverMode
  entitlement : Bits16
  maxPassengers : Nat
  grace : Nat
  honored : Nat
  deriving DecidableEq, Repr

/-- A product record from its bytes; none when a code in it is not defined, which the content check refuses
(R45, spec 11.7). -/
def productOf (r : List Byte) : Option ProductRec :=
  match productKindOf (u8 r 2), coverModeOf (u8 r 3) with
  | some kind, some mode =>
    some { code := u16 r 0, kind := kind, mode := mode, entitlement := bits16At r 4,
           maxPassengers := u8 r 6, grace := u8 r 7, honored := u8 r 8 }
  | _, _ => none

/-- Membership in an honored-by set (R44, spec 11.7). -/
def honors (p : ProductRec) (auth : Nat) : Bool :=
  decide (1 ≤ auth) && decide (auth ≤ 6) && p.honored.testBit (auth - 1)

/-- The product lookup (R47). Codes ascend strictly in a bank that was committed, so the one matching record is
what the search by halving finds (log entry 30). -/
def productLookup (b : Bank) (issuer code : Nat) : Option ProductRec :=
  ((bankRecords b .products issuer).find? fun r => u16 r 0 == code).bind productOf

/-! ## Rates -/

/-- A rates record (R48). -/
structure RatesRec where
  second : Nat
  first : Nat
  adult : Nat
  reduced : Nat
  child : Nat
  senior : Nat
  correction : Int
  unit : Nat
  cap : Nat
  penalty : Nat
  deriving DecidableEq, Repr

/-- A rates record from its bytes (spec 11.7). -/
def ratesOf (r : List Byte) : RatesRec :=
  { second := u16 r 0, first := u16 r 2, adult := u8 r 4, reduced := u8 r 5, child := u8 r 6, senior := u8 r 7,
    correction := signed16 (u16 r 8), unit := u8 r 10, cap := u16 r 11, penalty := u16 r 13 }

/-- The rates record of an authority (R48). -/
def ratesLookup (b : Bank) (auth : Nat) : Option RatesRec :=
  (bankRecords b .rates auth).head?.map ratesOf

/-! ## Revocation -/

/-- The revocation lookup (R49): not revoked when the bank declares no REVOCATION segment. -/
def revoked (b : Bank) (key : Key) : Bool :=
  (bankRecords b .revocation 0).any fun r => keyAt r 0 == key

/-! ## Tones -/

/-- The notes counted in a pattern record (R50, spec 11.7). -/
def notesOf (r : List Byte) : List Note :=
  (List.range (min (u8 r 1) 8)).map fun i =>
    { voice := u8 r (2 + 2 * i) / 64, pitch := u8 r (2 + 2 * i) % 64, duration := u8 r (3 + 2 * i) }

/-- The pattern lookup (R50): the records that serve a class, in segment order; none when no record does. -/
def patternLookup (b : Bank) (cls : VClass) : Option (List (List Note)) :=
  match (bankRecords b .tones 0).filter fun r => u8 r 0 == cls.wire with
  | [] => none
  | rs => some (rs.map notesOf)

end Sys2Proof.Machine
end

