-- ==== Sys2Proof/Machine/ContentCheck.lean ====
section
/-! DEFINITION. The content rules of the six segment kinds and the content check of LOAD_CLOSE (R40, R43, R45, R48
to R51). -/

namespace Sys2Proof.Machine

/-- In a closed range. -/
def inRange (lo n hi : Nat) : Bool := decide (lo ≤ n) && decide (n ≤ hi)

/-- R40 for one stop record, given the record before it, the records before it, and the record after it. -/
def stopRuleOk (m : Manifest) (earlier : List StopRec) (s : StopRec) (next : Option StopRec) : Bool :=
  let prev := earlier.getLast?
  let lastOfRoute := match next with
    | none => true
    | some n => n.route != s.route
  let crosses := match next with
    | none => false
    | some n => n.route == s.route && n.auth != s.auth
  let ordered := match prev with
    | none => s.index == 1
    | some q => (s.route == q.route && s.index == q.index + 1) || (decide (q.route < s.route) && s.index == 1)
  let zoneOk := match zoneCountIn m s.auth with
    | none => false
    | some z => inRange 1 s.zone z
  inRange 1 s.route 8 && inRange 1 s.index 64 && inRange 1 s.code 4095
    && declaredIn m s.auth && zoneOk && ordered
    && !(s.index == 1 && lastOfRoute)
    && !(earlier.any fun q => q.route == s.route && q.code == s.code)
    && s.border == crosses
    && !(s.request && (s.index == 1 || lastOfRoute))

/-- R40 over the ROUTES segment: the index of the first record that fails. -/
def firstBadStop (m : Manifest) (earlier : List StopRec) : List StopRec → Option Nat
  | [] => none
  | s :: rest =>
    if stopRuleOk m earlier s rest.head? then firstBadStop m (earlier ++ [s]) rest else some earlier.length

/-- R43 for one row: every entry 0..31, and d(x, x) is 0, x being the record index plus 1. -/
def rowRuleOk (i : Nat) (r : List Byte) : Bool :=
  (r.all fun b => decide (b.toNat ≤ 31)) && u8 r i == 0

/-- R45: the coverage modes a kind permits. -/
def modePermitted : ProductKind → CoverMode → Bool
  | .single, .originDest => true
  | .return, .originDest => true
  | .period, .originDest => true
  | .period, .zoneList => true
  | .carnet, .originDest => true
  | .carnet, .zoneList => true
  | .zonePass, .zoneList => true
  | .networkPass, .allZones => true
  | _, _ => false

/-- R45 for one product record, given the code of the record before it. -/
def productRuleOk (before : Option Nat) (r : List Byte) : Bool :=
  match productOf r with
  | none => false
  | some p =>
    decide (p.code ≤ 4095)
      && (match before with
          | none => true
          | some c => decide (c < p.code))
      && modePermitted p.kind p.mode && inRange 1 p.maxPassengers 9 && decide (p.grace ≤ 60)
      && decide (p.honored < 64)

/-- R48 for the rates record. -/
def ratesRuleOk (r : List Byte) : Bool :=
  let t := ratesOf r
  decide (t.second ≤ 4095) && decide (t.first ≤ 4095) && decide (t.adult ≤ 250) && decide (t.reduced ≤ 250)
    && decide (t.child ≤ 250) && decide (t.senior ≤ 250) && decide (-2048 ≤ t.correction)
    && decide (t.correction ≤ 2047) && [1, 2, 5, 10, 20, 50, 100].contains t.unit

/-- Key order: authority first, then serial (00 Conventions). -/
def keyBefore (a b : Key) : Bool :=
  decide (a.auth < b.auth) || (a.auth == b.auth && decide (a.serial < b.serial))

/-- R49 for one key, given the key before it. -/
def keyRuleOk (before : Option (List Byte)) (r : List Byte) : Bool :=
  inRange 1 (keyAt r 0).auth 6
    && match before with
       | none => true
       | some q => keyBefore (keyAt q 0) (keyAt r 0)

/-- R50 for one pattern record: the class, the note count, and each counted note. -/
def toneRuleOk (r : List Byte) : Bool :=
  inRange 1 (u8 r 0) 5 && inRange 1 (u8 r 1) 8
    && (notesOf r).all fun n => inRange 1 n.voice 3 && decide (n.pitch ≤ 63) && inRange 1 n.duration 255

/-- The index of the first record that fails a rule stated against the record before it. -/
def firstBadAfter (rule : Option (List Byte) → List Byte → Bool) (i : Nat) (before : Option (List Byte)) :
    List (List Byte) → Option Nat
  | [] => none
  | r :: rest => if rule before r then firstBadAfter rule (i + 1) (some r) rest else some i

/-- The index of the first record that fails a rule stated with its index. -/
def firstBadIndexed (rule : Nat → List Byte → Bool) (i : Nat) : List (List Byte) → Option Nat
  | [] => none
  | r :: rest => if rule i r then firstBadIndexed rule (i + 1) rest else some i

/-- The first record of a segment that breaks a content rule. -/
def firstBadRecord (m : Manifest) (kind : SegKind) (rs : List (List Byte)) : Option Nat :=
  match kind with
  | .routes => firstBadStop m [] (stopsFrom none rs)
  | .tones => firstBadIndexed (fun _ r => toneRuleOk r) 0 rs
  | .revocation => firstBadAfter keyRuleOk 0 none rs
  | .rates => firstBadIndexed (fun _ r => ratesRuleOk r) 0 rs
  | .zones => firstBadIndexed rowRuleOk 0 rs
  | .products => firstBadAfter (fun q r => productRuleOk (q.map fun x => u16 x 0) r) 0 none rs

/-- R51: the first failure in manifest order, as manifest position and record index; none when the check
passes. -/
def contentFailure (m : Manifest) (mem : List Host.Cell) (position : Nat) : List DirEntry → Option (Nat × Nat)
  | [] => none
  | e :: rest =>
    match firstBadRecord m e.kind (segmentRecords mem e) with
    | some i => some (position, i)
    | none => contentFailure m mem (position + 1) rest

end Sys2Proof.Machine
end

