-- ==== Sys2Proof/Machine/Frames.lean ====
section
/-! DEFINITION. The frame envelope, its check, its reception and the frame classes (R151, R172). -/

namespace Sys2Proof.Machine

/-- The sync byte (spec 11.1). -/
def syncByte : Byte := 126

/-- The longest payload (spec 11.1). -/
def maxPayload : Nat := 1024

/-- The generator x^16 + x^12 + x^5 + 1 by its lower sixteen terms (R172). -/
def crcPoly : Bits16 := 4129

/-- One place of the check register: shift toward the most significant end, and combine with 4129 when the bit
shifted out was 1 (R172). -/
def crcShift (r : Bits16) : Bits16 :=
  if r.msb then (r <<< 1) ^^^ crcPoly else r <<< 1

/-- One byte into the check register: exclusive-or into its upper eight bits, then eight shifts (R172). -/
def crcByte (r : Bits16) (b : Byte) : Bits16 :=
  let x := r ^^^ ((b.setWidth 16) <<< 8)
  crcShift (crcShift (crcShift (crcShift (crcShift (crcShift (crcShift (crcShift x)))))))

/-- The check over bytes: the register starts at 65535 and takes each byte in turn (R172). -/
def crc (bytes : List Byte) : Bits16 := bytes.foldl crcByte 65535

/-- A frame's class, length bytes and payload: what its check is computed over (R172). -/
def frameBody (cls : Nat) (payload : List Byte) : List Byte := be1 cls ++ be2 payload.length ++ payload

/-- A whole frame as sent (spec 11.1). -/
def frameBytes (cls : Nat) (payload : List Byte) : List Byte :=
  syncByte :: frameBody cls payload ++ bits16Bytes (crc (frameBody cls payload))

/-- What a port finds in the bytes received and not yet formed into a frame (R151). -/
inductive Reception where
  /-- No whole frame yet. -/
  | incomplete
  /-- The check failed or the length is above 1024: hunting goes on in `rest`, the bytes after the failed
  frame's sync byte. -/
  | failed (rest : List Byte)
  /-- A frame with a good check, and the bytes after it. -/
  | frame (cls : Nat) (payload rest : List Byte)
  deriving DecidableEq, Repr

/-- Hunting: bytes that are not a sync byte are passed over (R151). -/
def hunt (bytes : List Byte) : List Byte := bytes.dropWhile fun b => b != syncByte

/-- What follows a sync byte: class, length, payload and check (R151). -/
def receiveAfterSync (b : List Byte) : Reception :=
  if b.length < 3 then .incomplete
  else if maxPayload < u16 b 1 then .failed b
  else if b.length < 3 + u16 b 1 + 2 then .incomplete
  else if bits16At b (3 + u16 b 1) = crc (b.take (3 + u16 b 1)) then
    .frame (u8 b 0) ((b.drop 3).take (u16 b 1)) (b.drop (3 + u16 b 1 + 2))
  else .failed b

/-- The first frame in the bytes a port has received (R151). -/
def receive (bytes : List Byte) : Reception :=
  match hunt bytes with
  | [] => .incomplete
  | _ :: b => receiveAfterSync b

/-- Class codes toward the 6420 (R172). -/
def clsPresentation : Nat := 1
def clsConsumeReport : Nat := 2
def clsPresent : Nat := 16
def clsIntakeFlush : Nat := 17
def clsTime : Nat := 32
def clsDepart : Nat := 33
def clsArrive : Nat := 34
def clsSwitch : Nat := 35
def clsCoach : Nat := 36
def clsRunStart : Nat := 37
def clsLoadOpen : Nat := 48
def clsLoadRecord : Nat := 49
def clsLoadClose : Nat := 50
def clsLoadCommit : Nat := 51
def clsLoadAbandon : Nat := 52
def clsExportRead : Nat := 64
def clsExportMark : Nat := 65
def clsNote : Nat := 66
def clsShutdown : Nat := 67
def clsConfig : Nat := 80
def clsQuery : Nat := 81
def clsRestart : Nat := 82
/-- Class codes from the 6420 (R172). -/
def clsTapResult : Nat := 129
def clsHold : Nat := 130
def clsResume : Nat := 131
def clsResponse : Nat := 144
def clsVerdict : Nat := 145
def clsNotice : Nat := 146
def clsJournalEntry : Nat := 147

/-- The classes a link carries toward the 6420 (R172). -/
def classesToward : Link → List Nat
  | .reader => [clsPresentation, clsConsumeReport]
  | .terminal =>
    [clsPresent, clsIntakeFlush, clsTime, clsDepart, clsArrive, clsSwitch, clsCoach, clsRunStart,
      clsLoadOpen, clsLoadRecord, clsLoadClose, clsLoadCommit, clsLoadAbandon, clsExportRead,
      clsExportMark, clsNote, clsShutdown, clsConfig, clsQuery, clsRestart]

/-- Whether a link carries a class toward the 6420. -/
def carriedToward (l : Link) (cls : Nat) : Bool := (classesToward l).contains cls

end Sys2Proof.Machine
end

