-- ==== Sys2Proof/Machine/Layouts.lean ====
section
/-! DEFINITION. The bytes of everything the 6420 sends and of a journal entry's slots (R173, spec 11.3 to 11.6). -/

namespace Sys2Proof.Machine

/-- A field that may be absent, written as 0 when it is (R173). -/
def absent0 (x : Option Nat) : Nat := x.getD 0

/-- A position state in two bytes (spec 11.5). -/
def posBytes (p : PosState) : List Byte := be1 p.wire ++ be1 p.k

/-! ## Tap results -/

/-- TAP_RESULT payload (spec 11.3). -/
def tapBytes : TapResult → List Byte
  | .verdict tag cls reason amount consume =>
    be1 1 ++ be1 tag ++ be1 cls.wire ++ be1 reason.wire ++ be2 amount ++ boolByte consume
  | .notReadTag tag => be1 2 ++ be1 tag ++ be1 0 ++ be1 0 ++ be2 0 ++ be1 0
  | .notRead => be1 3 ++ be1 0 ++ be1 0 ++ be1 0 ++ be2 0 ++ be1 0

/-- A whole frame of the reader link (R172). -/
def ReaderFrame.bytes : ReaderFrame → List Byte
  | .tap t => frameBytes clsTapResult (tapBytes t)
  | .hold => frameBytes clsHold []
  | .resume => frameBytes clsResume []

/-! ## Verdicts -/

/-- The six bytes of reason detail (spec 11.4). -/
def detailBytes : Detail → List Byte
  | .absent => [0, 0, 0, 0, 0, 0]
  | .missing bits => bits16Bytes bits ++ [0, 0, 0, 0]
  | .begun code time => be2 code ++ timeBytes time

/-- One item of a runs list (spec 11.4). -/
def runBytes (r : RunItem) : List Byte := be1 r.auth ++ be1 r.zones ++ be2 r.amount

/-- Bytes 0..11 of a VERDICT frame's payload. -/
def verdictHead (v : Verdict) : List Byte :=
  be1 v.tag ++ be1 v.cls.wire ++ be1 v.reason.wire ++ boolByte v.consume ++ be2 v.flags.wire
    ++ be2 v.amount ++ be4 v.generation

/-- Bytes 16..27 of a VERDICT frame's payload. -/
def verdictTail (v : Verdict) : List Byte :=
  be1 v.coach ++ be1 (absent0 v.route) ++ be1 (absent0 v.stopIndex) ++ posBytes v.pos
    ++ detailBytes v.detail ++ be1 v.runs.length

/-- VERDICT payload (spec 11.4). -/
def verdictBytes (v : Verdict) : List Byte :=
  verdictHead v ++ be4 (absent0 v.seq) ++ verdictTail v ++ v.runs.flatMap runBytes

/-! ## Journal entries -/

/-- Slots an entry occupies (R130). -/
def entrySlots : EntryBody → Nat
  | .verdict v _ _ _ _ => 2 + (v.runs.length + 6) / 7
  | _ => 1

/-- Payload of an entry, in the field order of R130 (spec 11.6). -/
def entryPayload : EntryBody → List Byte
  | .verdict v source medium key product =>
    verdictHead v ++ verdictTail v ++ be1 source.wire ++ be1 medium.wire ++ keyBytes key ++ be2 product
      ++ v.runs.flatMap runBytes
  | .consume tag key outcome => be1 tag ++ keyBytes key ++ be1 outcome.wire
  | .runStart => []
  | .commit generation epochDay previous kind =>
    be4 generation ++ be2 epochDay ++ be4 previous ++ be1 kind.wire
  | .depart route index code time => be1 route ++ be1 index ++ be2 code ++ timeBytes time
  | .note bytes => bytes
  | .mark value => be4 value
  | .started cause generation => be1 cause.wire ++ be4 generation
  | .closed => []

/-- Header and payload of an entry (spec 11.6). -/
def entryHead (e : Entry) : List Byte :=
  be4 e.seq ++ be1 e.body.wire ++ be1 (entrySlots e.body) ++ timeBytes e.time ++ be2 e.run ++ entryPayload e.body

/-- Everything before an entry's check: header, payload, and the bytes left erased (spec 11.6). -/
def entryBodyBytes (e : Entry) : List Byte :=
  entryHead e ++ List.replicate (32 * entrySlots e.body - 4 - (entryHead e).length) 255

/-- The completion marker (R129). -/
def completionMarker : List Byte := [165, 90]

/-- An entry's slots as programmed (R129, spec 11.6). -/
def entryBytes (e : Entry) : List Byte :=
  entryBodyBytes e ++ bits16Bytes (crc (entryBodyBytes e)) ++ completionMarker

/-! ## Notices -/

/-- A byte that says whether a field is present, then the field (spec 11.5). An absent field's bytes stand, as 0: in a
DISCARDED notice by its one layout, in STATUS and MEMORY by log entry 51. -/
def presence (size : Nat) : Option (List Byte) → List Byte
  | none => be1 0 ++ List.replicate size 0
  | some b => be1 1 ++ b

/-- A bank number, 255 when no bank is ACTIVE (spec 11.5). -/
def bankByte (b : Option Nat) : List Byte := be1 (b.getD 255)

/-- Content of a notice, field by field in the order its placing rule names them (spec 11.5). -/
def noticeContent : NoticeBody → List Byte
  | .discarded reason source tag key time =>
    be1 reason.wire ++ be1 source.wire ++ presence 1 (tag.map be1) ++ presence 5 (key.map keyBytes)
      ++ timeBytes time
  | .holdState on causes => boolByte on ++ be1 causes.wire
  | .clockCorrected old new discarded => timeBytes old ++ timeBytes new ++ be1 discarded
  | .positionLost pos route length generation => posBytes pos ++ be1 route ++ be1 length ++ be4 generation
  | .commitDone generation epochDay previous kind bank other =>
    be4 generation ++ be2 epochDay ++ be4 previous ++ be1 kind.wire ++ be1 bank ++ be1 other.wire
  | .journalFull cause dropped headSector mark highest highestAhead =>
    be1 cause.wire ++ be1 dropped ++ be1 headSector ++ be4 mark ++ be4 highest ++ be4 highestAhead
  | .journalAvailable sector mark => be1 sector ++ be4 mark
  | .consumeResolved tag key outcome trip seq =>
    be1 tag ++ keyBytes key ++ be1 outcome.wire ++ be1 (tripWire trip) ++ be4 (absent0 seq)
  | .supplySafe => []
  | .supplyNormal => []
  | .started cause seq bank generation epochDay headSector headSlot mark highest oldest erased low =>
    be1 cause.wire ++ be4 (absent0 seq) ++ bankByte bank ++ be4 generation ++ be2 epochDay ++ be1 headSector
      ++ be1 headSlot ++ be4 mark ++ be4 highest ++ be4 oldest ++ be1 erased ++ boolByte low

/-- NOTICE payload (spec 11.5): kind, dropped count, the time it was placed, content. -/
def noticeBytes (n : Notice) (overflowed : Nat) : List Byte :=
  be1 n.body.wire ++ be1 overflowed ++ timeBytes n.time ++ noticeContent n.body

/-- RESPONSE payload (spec 11.5): class answered, status, mark, content. -/
def responseBytes (cls : Nat) (r : Reply) : List Byte :=
  be1 cls ++ be1 r.status.wire ++ be1 r.mark.wire ++ r.content

/-- A whole frame of the terminal link (R172). -/
def TermFrame.bytes : TermFrame → List Byte
  | .response cls r => frameBytes clsResponse (responseBytes cls r)
  | .verdict v => frameBytes clsVerdict (verdictBytes v)
  | .notice n o => frameBytes clsNotice (noticeBytes n o)
  | .journalEntry e => frameBytes clsJournalEntry (entryBytes e)

/-- One directory entry in six bytes (spec 11.5). -/
def dirEntryBytes (e : DirEntry) : List Byte :=
  be1 e.kind.wire ++ be1 e.auth ++ be2 e.count ++ be1 e.first ++ be1 e.length

end Sys2Proof.Machine
end

