-- ==== Sys2Proof/Machine/Time.lean ====
section
/-! DEFINITION. Service time (00 Conventions, R20, R86, R114). -/

namespace Sys2Proof.Machine

/-- The last minute of a service day. -/
def lastMinute : Nat := 1919

/-- Minutes in a service day. -/
def minutesPerDay : Nat := 1920

/-- The greatest service day. -/
def lastDay : Nat := 65535

/-- Earlier by day, then by minute. -/
def Time.before (a b : Time) : Bool :=
  decide (a.day < b.day) || (decide (a.day = b.day) && decide (a.minute < b.minute))

/-- Earlier or equal. -/
def Time.atOrBefore (a b : Time) : Bool := !(b.before a)

/-- R114: service minutes from a sighting to now, 0 when the sighting is later than now. -/
def minutesSince (sighting now : Time) : Nat :=
  if now.before sighting then 0
  else (now.day - sighting.day) * minutesPerDay + now.minute - sighting.minute

/-- R86 (b): the validity end plus grace minutes; past minute 1919 it is on the next day at the sum less 1920,
and a limit past day 65535 is (65535, 1919). -/
def graceLimit (validEnd : Time) (grace : Nat) : Time :=
  if validEnd.minute + grace ≤ lastMinute then { day := validEnd.day, minute := validEnd.minute + grace }
  else if validEnd.day + 1 ≤ lastDay then
    { day := validEnd.day + 1, minute := validEnd.minute + grace - minutesPerDay }
  else { day := lastDay, minute := lastMinute }

/-- A received time is well formed when its minute is at most 1919 (R3, R22, R70). -/
def Time.wellFormed (t : Time) : Bool := decide (t.minute ≤ lastMinute)

end Sys2Proof.Machine
end

