-- ==== Sys2Proof/Machine/Operands.lean ====
section
/-! DEFINITION. Reading the payloads of received frames (spec 11.3, 11.7) and their well-formedness (R3, R22,
R173). A payload that is not well formed reads as none. -/

namespace Sys2Proof.Machine

/-- A presentation as its payload gives it, before intake completes its record (spec 11.3). -/
structure PresPayload where
  medium : Medium
  key : Key
  product : Nat
  validStart : Time
  validEnd : Time
  category : Category
  count : Nat
  origin : Option Nat
  destination : Option Nat
  trips : Option Nat
  upgrades : Option Bits16
  attested : Bool
  zones : List (Nat × Nat)
  deriving DecidableEq, Repr

/-- The zone-list entries from an offset: authority then zone. -/
def zoneEntriesAt (p : List Byte) (off : Nat) : Nat → List (Nat × Nat)
  | 0 => []
  | n + 1 => (u8 p off, u8 p (off + 1)) :: zoneEntriesAt p (off + 2) n

/-- A field that is present when its indication is set. -/
def whenSet {α : Type} (c : Bool) (v : α) : Option α := if c then some v else none

/-- A present stop code is 1..4095 (R3). -/
def stopFieldOk : Option Nat → Bool
  | none => true
  | some c => decide (1 ≤ c) && decide (c ≤ 4095)

/-- The length a presentation payload's own indications require (spec 11.3). -/
def presLength (ind n : Nat) : Nat :=
  21 + 2 * (ind.testBit 0).toNat + 2 * (ind.testBit 1).toNat + (ind.testBit 2).toNat
    + 2 * (ind.testBit 3).toNat + 2 * n

/-- Reads a PRESENTATION or PRESENT payload; none when it is not well formed (R3). -/
def readPresentation (p : List Byte) : Option PresPayload :=
  let ind := u8 p 18
  let n := u8 p 20
  let dOff := 21 + 2 * (ind.testBit 0).toNat
  let tOff := dOff + 2 * (ind.testBit 1).toNat
  let uOff := tOff + (ind.testBit 2).toNat
  let zOff := uOff + 2 * (ind.testBit 3).toNat
  let origin := whenSet (ind.testBit 0) (u16 p 21)
  let destination := whenSet (ind.testBit 1) (u16 p dOff)
  if p.length < 21 then none
  else if p.length != presLength ind n then none
  else if 8 < n || 4095 < u16 p 6 then none
  else if !(stopFieldOk origin && stopFieldOk destination) then none
  else if !((timeAt p 8).wellFormed && (timeAt p 12).wellFormed) then none
  else
    match mediumOf (u8 p 0), categoryOf (u8 p 16) with
    | some medium, some category =>
      some
        { medium := medium, key := keyAt p 1, product := u16 p 6, validStart := timeAt p 8,
          validEnd := timeAt p 12, category := category, count := u8 p 17, origin := origin,
          destination := destination, trips := whenSet (ind.testBit 2) (u8 p tOff),
          upgrades := whenSet (ind.testBit 3) (bits16At p uOff), attested := u8 p 19 != 0,
          zones := zoneEntriesAt p zOff n }
    | _, _ => none

/-- The key of a payload long enough to hold one (R3). -/
def payloadKey (p : List Byte) : Option Key := if p.length < 6 then none else some (keyAt p 1)

/-- Reads a CONSUME_REPORT payload: tag, key, outcome WRITTEN or NOT_WRITTEN (R122). -/
def readConsumeReport (p : List Byte) : Option (Nat × Key × ConsumeOutcome) :=
  if p.length != 7 then none
  else
    match u8 p 6 with
    | 1 => some (u8 p 0, keyAt p 1, .written)
    | 2 => some (u8 p 0, keyAt p 1, .notWritten)
    | _ => none

/-- Reads a TIME payload (R22). -/
def readTime (p : List Byte) : Option Time :=
  if p.length != 4 then none
  else if (timeAt p 0).wellFormed then some (timeAt p 0) else none

/-- A position report: route id, stop index, service time (02 section 2.2). -/
structure Report where
  route : Nat
  index : Nat
  time : Time
  deriving DecidableEq, Repr

/-- Reads a DEPART, ARRIVE or SWITCH payload (R22). -/
def readReport (p : List Byte) : Option Report :=
  if p.length != 6 then none
  else if (timeAt p 2).wellFormed then some { route := u8 p 0, index := u8 p 1, time := timeAt p 2 }
  else none

/-- Reads a COACH payload: coach number and demand word (R33). -/
def readCoach (p : List Byte) : Option (Nat × Bits16) :=
  if p.length != 3 then none else some (u8 p 0, bits16At p 1)

/-- Reads a RUN_START payload: run number (R34). -/
def readRunStart (p : List Byte) : Option Nat := if p.length != 2 then none else some (u16 p 0)

/-- A segment declaration as received: codes not yet checked (spec 11.7). -/
structure RawSeg where
  kind : Nat
  auth : Nat
  count : Nat
  placement : Nat
  block : Nat
  deriving DecidableEq, Repr

/-- A manifest as received (spec 11.7). -/
structure RawManifest where
  generation : Nat
  epochDay : Nat
  auths : List AuthDecl
  segs : List RawSeg
  deriving DecidableEq, Repr

/-- Authority declarations from an offset. -/
def authsAt (p : List Byte) (off : Nat) : Nat → List AuthDecl
  | 0 => []
  | n + 1 => { code := u8 p off, rank := u8 p (off + 1) } :: authsAt p (off + 2) n

/-- Segment declarations from an offset. -/
def rawSegsAt (p : List Byte) (off : Nat) : Nat → List RawSeg
  | 0 => []
  | n + 1 =>
    { kind := u8 p off, auth := u8 p (off + 1), count := u16 p (off + 2), placement := u8 p (off + 4),
      block := u8 p (off + 5) } :: rawSegsAt p (off + 6) n

/-- Reads a LOAD_OPEN payload; none when its length is not the length its counts require (R173). The codes of its segment
declarations are tested with the declarations, whose refusal names a position (R60). -/
def readManifest (p : List Byte) : Option RawManifest :=
  if p.length < 8 then none
  else if p.length != 8 + 2 * u8 p 6 + 6 * u8 p 7 then none
  else
    some
      { generation := u32 p 0, epochDay := u16 p 4, auths := authsAt p 8 (u8 p 6),
        segs := rawSegsAt p (8 + 2 * u8 p 6) (u8 p 7) }

/-- A LOAD_RECORD frame (04 section 4.7). -/
structure RecordFrame where
  position : Nat
  first : Nat
  count : Nat
  data : List Byte
  deriving DecidableEq, Repr

/-- Reads a LOAD_RECORD payload; none when it lacks its four fixed bytes (R173). -/
def readRecordFrame (p : List Byte) : Option RecordFrame :=
  if p.length < 4 then none
  else some { position := u8 p 0, first := u16 p 1, count := u8 p 3, data := p.drop 4 }

/-- Whether a LOAD_COMMIT payload is one that LOAD_COMMIT_NOW dispatches: mode 0 (spec 11.7). -/
def commitModeNow (p : List Byte) : Bool := decide (0 < p.length) && u8 p 0 == 0

/-- A LOAD_COMMIT payload is a mode and a service time, not read under NOW (spec 11.7). -/
def readCommitNow (p : List Byte) : Bool := p.length == 5 && commitModeNow p

/-- Reads the service time of a LOAD_COMMIT carrying one (R70). -/
def readCommitTime (p : List Byte) : Option Time :=
  if p.length != 5 || u8 p 0 != 1 then none
  else if (timeAt p 1).wellFormed then some (timeAt p 1) else none

/-- Reads an EXPORT_READ payload: from and count (R140); a count of 0 or above 256 is refused. -/
def readExportRead (p : List Byte) : Option (Nat × Nat) :=
  if p.length != 6 then none
  else if u16 p 4 == 0 || 256 < u16 p 4 then none
  else some (u32 p 0, u16 p 4)

/-- Reads an EXPORT_MARK payload (R142). -/
def readExportMark (p : List Byte) : Option Nat := if p.length != 4 then none else some (u32 p 0)

/-- Reads a NOTE payload: sixteen bytes (R143). -/
def readNote (p : List Byte) : Option (List Byte) := if p.length != 16 then none else some p

/-- The values a CONFIG frame carries, each present or absent (R160). -/
structure ConfigValues where
  window : Option Nat
  policy : Option Policy
  burst : Option Nat
  volume : Option Nat
  hold : Option Nat
  resume : Option Nat
  deriving DecidableEq, Repr

/-- Reads a CONFIG payload; none when a carried policy code names neither policy (R160). Bits 6 and 7 of the presence
byte, which spec 11.7 does not speak of, are ignored (log entry 43). -/
def readConfig (p : List Byte) : Option ConfigValues :=
  let m := u8 p 0
  if p.length != 7 then none
  else if m.testBit 1 && (policyOf (u8 p 2)).isNone then none
  else
    some
      { window := whenSet (m.testBit 0) (u8 p 1),
        policy := if m.testBit 1 then policyOf (u8 p 2) else none,
        burst := whenSet (m.testBit 2) (u8 p 3), volume := whenSet (m.testBit 3) (u8 p 4),
        hold := whenSet (m.testBit 4) (u8 p 5), resume := whenSet (m.testBit 5) (u8 p 6) }

/-- Which of the four QUERY rows dispatches a payload: kinds 2, 3 and 4 have a row each, and every other
payload falls to QUERY_STATUS, which answers BAD_ARG unless the kind is 1 (R161, log entry 10). -/
def queryRow (p : List Byte) : Nat :=
  if p.length = 0 then 1
  else
    match u8 p 0 with
    | 2 => 2
    | 3 => 3
    | 4 => 4
    | _ => 1

/-- Reads a MEMORY query's key (R161). -/
def readMemoryQuery (p : List Byte) : Option Key := if p.length != 6 then none else some (keyAt p 1)

end Sys2Proof.Machine
end

