-- ==== Sys2Proof/Machine/Ops.lean ====
section
/-! DEFINITION. The operations the commands share: notices, responses, hold causes and flow control, tags, pins,
the two transmitters, the dispatch of a control frame, and the form every command's effect has. -/

namespace Sys2Proof.Machine

/-! ## Reading the state -/

/-- SAFE stands (R149): its hold cause is in the set as long as the line is asserted. -/
def State.safe (s : State) : Bool := s.intake.causes.safe

/-- A RESTART has been dispatched and has not taken effect (R10, R17). -/
def State.restarting (s : State) : Bool := s.intake.causes.restarting

/-- The hold state wanted toward the reader: ON when the set of causes is not empty (R10). -/
def HoldCauses.wanted (c : HoldCauses) : Bool := c.depth || c.safe || c.shutdown || c.restarting

/-- Intake is closed to the terminal in SAFE and from SHUTDOWN on (R9). -/
def State.intakeClosed (s : State) : Bool := s.intake.causes.safe || s.intake.causes.shutdown

/-- The ready line (R152): asserted with an empty input place and fewer than 8 responses. -/
def State.ready (s : State) : Bool := s.port.input.isNone && decide (s.port.responses.length < 8)

/-- What the Evaluator holds, when it is not IDLE (R76). -/
def Evaluator.context : Evaluator → Option EvalContext
  | .idle => none
  | .evaluating c => some c
  | .awaiting c _ _ => some c

/-- The Evaluator is IDLE (R76). -/
def Evaluator.isIdle : Evaluator → Bool
  | .idle => true
  | .evaluating _ => false
  | .awaiting .. => false

/-! ## Notices (R156) -/

/-- Most notices that wait. -/
def noticeLimit : Nat := 16

/-- R156: a notice joins the tail, or is dropped and counted when 16 wait; the count stops at 255. -/
def TerminalPort.addNotice (p : TerminalPort) (n : Notice) : TerminalPort :=
  if p.notices.length < noticeLimit then { p with notices := p.notices ++ [n] }
  else { p with dropped := min (p.dropped + 1) 255 }

/-- A notice placed now, timed with the service clock (spec 11.5). -/
def notice (b : NoticeBody) (s : State) : State :=
  s.setPort (s.port.addNotice { time := s.position.clock, body := b })

/-! ## Responses (R154, R155) -/

/-- A reply of a status, without mark or content. -/
def Reply.bare (st : Status) : Reply := { status := st, mark := .none, content := [] }

/-- A reply of a status with content. -/
def Reply.with (st : Status) (content : List Byte) : Reply := { status := st, mark := .none, content := content }

/-- R154: an entry for a frame answered at its dispatch. -/
def respond (cls : Nat) (r : Reply) (s : State) : State :=
  s.setPort { s.port with responses := s.port.responses ++ [{ cls := cls, reply := some r }] }

/-- R154: an entry whose response is produced later. -/
def holdResponse (cls : Nat) (s : State) : State :=
  s.setPort { s.port with responses := s.port.responses ++ [{ cls := cls, reply := none }] }

/-- The first pending entry of a class given its reply. -/
def fillFirst (cls : Nat) (r : Reply) : List Response → List Response
  | [] => []
  | x :: rest =>
    if x.cls = cls ∧ x.reply = none then { x with reply := some r } :: rest else x :: fillFirst cls r rest

/-- R154: the held response of a class is produced. -/
def produce (cls : Nat) (r : Reply) (s : State) : State :=
  s.setPort { s.port with responses := fillFirst cls r s.port.responses }

/-- Every pending entry of a class given its reply. -/
def fillAll (cls : Nat) (r : Reply) (l : List Response) : List Response :=
  l.map fun x => if x.cls = cls ∧ x.reply = none then { x with reply := some r } else x

/-- R74: every held response of a class is produced. -/
def produceAll (cls : Nat) (r : Reply) (s : State) : State :=
  s.setPort { s.port with responses := fillAll cls r s.port.responses }

/-! ## The Intake Queue -/

/-- Most presentations the queue holds (R6). -/
def queueLimit : Nat := 14

/-- R10: DEPTH after a change of depth. -/
def depthCause (hold resume depth : Nat) (standing : Bool) : Bool :=
  if hold ≤ depth then true else if depth ≤ resume then false else standing

/-- R10: the flow-control step. -/
def flowStep (s : State) : State :=
  s.setIntake
    { s.intake with
      causes :=
        { s.intake.causes with
          depth := depthCause s.settings.hold s.settings.resume s.intake.queue.length s.intake.causes.depth } }

/-- The queue replaced, and the flow-control step that follows a change of depth (R6, R7, R10). -/
def setQueue (q : List Presentation) (s : State) : State := flowStep (s.setIntake { s.intake with queue := q })

/-- The tags held (R5): in the queue, in evaluation, and on the pending-consume list. -/
def heldTags (s : State) : List Nat :=
  s.intake.queue.map Presentation.tag ++ (s.evaluator.context.map fun c => c.pres.tag).toList
    ++ s.memory.pendingList.map PendingConsume.tag

/-- R5: the first tag from the counter upward modulo 256 that is not held. At most 18 are held. -/
def freeTag (counter : Nat) (held : List Nat) : Nat :=
  (((List.range 256).map fun i => (counter + i) % 256).find? fun t => !held.contains t).getD counter

/-- The tag an admission now would give. -/
def nextTag (s : State) : Nat := freeTag s.intake.tagCounter (heldTags s)

/-- R4: a count of 0 is recorded as 1, one above 9 as 9. -/
def recordedCount (n : Nat) : Nat := if n = 0 then 1 else min n 9

/-- R4: the presentation record, completed. -/
def recordOf (src : Source) (tag : Nat) (now : Time) (p : PresPayload) : Presentation :=
  { source := src, tag := tag, intakeTime := now, medium := p.medium, key := p.key, product := p.product,
    validStart := p.validStart, validEnd := p.validEnd, origin := p.origin, destination := p.destination,
    zones := p.zones, category := p.category, count := recordedCount p.count,
    clamped := recordedCount p.count != p.count, trips := p.trips, upgrades := p.upgrades,
    attested := p.attested && p.medium != .paper }

/-- R4 to R6: a presentation is recorded, tagged and appended at the tail, and the flow-control step follows. -/
def enrol (src : Source) (p : PresPayload) (s : State) : State :=
  setQueue (s.intake.queue ++ [recordOf src (nextTag s) s.position.clock p])
    (s.setIntake { s.intake with tagCounter := (nextTag s + 1) % 256 })

/-- R11: a tap result joins those waiting for the reader. -/
def addTap (t : TapResult) (s : State) : State := s.setReader { s.reader with taps := s.reader.taps ++ [t] }

/-- R13, R14: the notice of one presentation discarded from the queue, and its NOT_READ when the reader sent it. -/
def discardOne (why : DiscardReason) (p : Presentation) (s : State) : State :=
  let s := notice (.discarded why p.source (some p.tag) (some p.key) p.intakeTime) s
  match p.source with
  | .reader => addTap (.notReadTag p.tag) s
  | .keyed => s

/-- R13, R14: presentations discarded in order. -/
def discardAll (why : DiscardReason) : List Presentation → State → State
  | [], s => s
  | p :: rest, s => discardAll why rest (discardOne why p s)

/-- R13, R14: the queue emptied from head to tail, and the flow-control step that follows. -/
def emptyQueue (why : DiscardReason) (s : State) : State := setQueue [] (discardAll why s.intake.queue s)

/-! ## The banks -/

/-- Bank 0 or bank 1. -/
def TableStore.bank (t : TableStore) (n : Nat) : Bank := if n = 0 then t.bank0 else t.bank1

/-- The Table Store with one bank replaced. -/
def TableStore.setBank (t : TableStore) (n : Nat) (b : Bank) : TableStore :=
  if n = 0 then { t with bank0 := b } else { t with bank1 := b }

/-- The number of the ACTIVE bank (R55). -/
def TableStore.activeIndex (t : TableStore) : Option Nat :=
  if t.bank0.role = .active then some 0 else if t.bank1.role = .active then some 1 else none

/-- The ACTIVE bank (R55). -/
def TableStore.active (t : TableStore) : Option Bank := t.activeIndex.map t.bank

/-- The generation in a bank's header. -/
def Bank.generation (b : Bank) : Nat := (b.header.map fun h => h.manifest.generation).getD 0

/-- The epoch day in a bank's header. -/
def Bank.epochDay (b : Bank) : Nat := (b.header.map fun h => h.manifest.epochDay).getD 0

/-- R55: the active generation, 0 when no bank is ACTIVE. -/
def TableStore.activeGeneration (t : TableStore) : Nat := (t.active.map Bank.generation).getD 0

/-- The epoch day of the ACTIVE bank, 0 when no bank is ACTIVE. -/
def TableStore.activeEpochDay (t : TableStore) : Nat := (t.active.map Bank.epochDay).getD 0

/-- R58: one pin more on a bank. -/
def Bank.pin (b : Bank) : Bank := { b with pins := b.pins + 1 }

/-- R58: one pin less; a RETIRING bank whose count falls to 0 becomes STAGING. -/
def Bank.unpin (b : Bank) : Bank :=
  { b with pins := b.pins - 1,
           role := if b.role = .retiring ∧ b.pins - 1 = 0 then .staging else b.role }

/-- R58: the pin on a bank taken or released. -/
def TableStore.onBank (t : TableStore) (f : Bank → Bank) : Option Nat → TableStore
  | none => t
  | some n => t.setBank n (f (t.bank n))

/-- R58: an evaluation's pin released. -/
def releasePin (n : Option Nat) (s : State) : State := s.setTables (s.tables.onBank Bank.unpin n)

/-! ## Journal flash, read -/

/-- Slots in a journal sector, and sectors in the ring (R129). -/
def slotsPerSector : Nat := 64

/-- The sector of a slot. -/
def sectorOf (slot : Nat) : Nat := slot / slotsPerSector

/-- Whether an entry's first `n` parts lie from a slot upward. -/
def partsFrom (slots : List (Nat × JSlot)) (base : Nat) (e : Entry) : Nat → Bool
  | 0 => true
  | n + 1 => (lookupAt slots (base + n) == some (.part e n)) && partsFrom slots base e n

/-- An entry stands complete from a slot: every slot of it is there (R129). -/
def completeAt (slots : List (Nat × JSlot)) (base : Nat) (e : Entry) : Bool :=
  partsFrom slots base e (entrySlots e.body)

/-- The complete entries of the ring with their first slots, in slot order. -/
def completeEntries (slots : List (Nat × JSlot)) : List (Nat × Entry) :=
  slots.filterMap fun x =>
    match x.2 with
    | .part e 0 => if completeAt slots x.1 e then some (x.1, e) else none
    | _ => none

/-- The entry of a sequence number (R159). -/
def entryOf (slots : List (Nat × JSlot)) (seq : Nat) : Option Entry :=
  ((completeEntries slots).find? fun x => x.2.seq == seq).map Prod.snd

/-! ## The two transmitters -/

/-- R11: what the Reader Link Port does with a free transmitter: a flow frame when the wanted state differs from
the state as sent, with its HOLD_STATE notice, else the oldest tap result. -/
def readerTransmit (s : State) : State :=
  match s.reader.sending with
  | some _ => s
  | none =>
    if s.intake.causes.wanted != s.reader.asSent then
      notice (.holdState s.intake.causes.wanted s.intake.causes)
        (s.setReader
          { s.reader with asSent := s.intake.causes.wanted,
                          sending := some (if s.intake.causes.wanted then .hold else .resume) })
    else
      match s.reader.taps with
      | [] => s
      | t :: rest => s.setReader { s.reader with taps := rest, sending := some (.tap t) }

/-- The next entry of the export stream begins its frame; it is handed over then (R159). `n` counts the frames of
the burst before it. A number whose entry cannot be read leaves the stream; a held sector is not erased, so
that does not happen. -/
def sendEntry (slots : List (Nat × JSlot)) (n : Nat) (p : TerminalPort) : TerminalPort :=
  match p.stream with
  | [] => { p with burst := none }
  | q :: rest =>
    match entryOf slots q with
    | some e => { p with stream := rest, burst := some (n + 1), sending := some (.journalEntry e) }
    | none => { p with stream := rest, burst := none }

/-- R158: the arbiter's order of choice: the produced response at the head, the oldest verdict, the oldest notice,
the export stream. A notice takes the dropped count with it (R156). -/
def arbiterChoice (slots : List (Nat × JSlot)) (p : TerminalPort) : TerminalPort :=
  match p.responses, p.verdicts, p.notices with
  | { cls := c, reply := some r } :: _, _, _ => { p with burst := none, sending := some (.response c r) }
  | _, v :: _, _ => { p with burst := none, sending := some (.verdict v) }
  | _, [], n :: rest =>
    { p with burst := none, notices := rest, dropped := 0, sending := some (.notice n p.dropped) }
  | _, [], [] => sendEntry slots 0 p

/-- R150, R163: the Journal's drain has ended and no table flash operation or content check remains; a commit that
has begun is one of them. -/
def drained (s : State) : Bool :=
  s.journal.queue.isEmpty && s.journal.waiting.isEmpty && s.journal.op.isNone && s.tables.op.isNone
    && !s.tables.checking && s.tables.commitDue.isNone

/-- R164: the warm restart takes effect now. The drain must have ended again when something was queued after
DRAIN_END (log entry 19). -/
def restartReady (s : State) : Bool :=
  s.restarting && s.port.responses.isEmpty && s.port.verdicts.isEmpty && s.port.sending.isNone && drained s

/-- R158: what the Terminal Link Port does with a free transmitter; a running burst goes on while it has sent fewer
frames than the burst length and the stream has an entry. A free transmitter that lets a warm restart take effect is
left to it (R164, log entry 41). -/
def terminalTransmit (s : State) : State :=
  if restartReady s then s
  else
    match s.port.sending, s.port.burst with
    | some _, _ => s
    | none, some n =>
      if n < s.settings.burst ∧ s.port.stream ≠ [] then s.setPort (sendEntry s.journal.slots n s.port)
      else s.setPort (arbiterChoice s.journal.slots s.port)
    | none, none => s.setPort (arbiterChoice s.journal.slots s.port)

/-- What follows every event: the reader's transmitter and then the terminal's take what waits for them. -/
def settle (s : State) : State := terminalTransmit (readerTransmit s)

/-! ## The form of a command -/

/-- A command acts when the part is powered and the event it reports can happen; otherwise nothing has happened and
nothing changes (log entries 1 and 32). -/
def act (occasion : Bool) (f : State → State) (s : State) : Host.Outcome State Fault Refusal :=
  .next (if s.powered && occasion then settle (f s) else s)

/-- R153, the conditions that hold for every frame. -/
def frameReady (s : State) : Bool :=
  decide (s.port.responses.length < 8) && s.journal.mode != .recovering && !s.restarting

/-- The frame leaves the input place (R153). -/
def takeFrame (s : State) : State := s.setPort { s.port with input := none }

/-- R153: the frame in the input place is dispatched when it has the class of the row, its payload is one the row
takes, the frame conditions hold, and its owner can take a frame. -/
def dispatchWhen (cls : Nat) (owner : Bool) (takes : List Byte → Bool) (f : List Byte → State → State)
    (s : State) : Host.Outcome State Fault Refusal :=
  match s.port.input with
  | none => .next s
  | some fr =>
    act (decide (fr.cls = cls) && takes fr.payload && frameReady s && owner)
      (fun s => f fr.payload (takeFrame s)) s

/-- R153 for a row that takes every payload of its class. -/
def dispatch (cls : Nat) (owner : Bool) (f : List Byte → State → State) (s : State) :
    Host.Outcome State Fault Refusal := dispatchWhen cls owner (fun _ => true) f s

/-- R153: the Position Unit takes no frame while an entry waits in its outgoing place. -/
def positionReady (s : State) : Bool := s.position.outgoing.isNone

/-- A record program is in flight (R68). -/
def recordInFlight : Option TableOp → Bool
  | some (.recordProgram ..) => true
  | some (.eraseSector ..) => false
  | some (.headerProgram _) => false
  | some (.markProgram ..) => false
  | none => false

/-- R153: the Table Store takes no frame during a record program, a content check, or with an entry waiting. -/
def tablesReady (s : State) : Bool :=
  !recordInFlight s.tables.op && !s.tables.checking && s.tables.outgoing.isNone

/-- R153: the Journal takes no frame while an entry waits in its control place. -/
def journalReady (s : State) : Bool := s.journal.control.isNone

/-! ## Reception (R151) -/

/-- The bytes not yet formed into a frame, after some more have come. -/
def rxAfter (l : Link) (bytes : List Byte) (s : State) : List Byte :=
  match l with
  | .reader => s.reader.rx ++ bytes
  | .terminal => s.port.rx ++ bytes

/-- The bytes of a link not yet formed into a frame, replaced. -/
def setRx (l : Link) (rx : List Byte) (s : State) : State :=
  match l with
  | .reader => s.setReader { s.reader with rx := rx }
  | .terminal => s.setPort { s.port with rx := rx }

/-- What a failed reception leaves: hunting from the byte after the failed frame's sync byte, or from the byte
after a frame whose class the link does not carry (R151). None when the bytes hold no such frame. -/
def failedRest (l : Link) (bytes : List Byte) : Option (List Byte) :=
  match receive bytes with
  | .failed rest => some (hunt rest)
  | .frame cls _ rest => if carriedToward l cls then none else some rest
  | .incomplete => none

/-- A frame with a good check and one of the given classes: class, payload and the bytes after it. -/
def wholeFrame (classes : List Nat) (bytes : List Byte) : Option (Nat × List Byte × List Byte) :=
  match receive bytes with
  | .frame cls payload rest => if classes.contains cls then some (cls, payload, rest) else none
  | .failed _ => none
  | .incomplete => none

end Sys2Proof.Machine
end

