-- ==== Sys2Proof/Machine/Sightings.lean ====
section
/-! DEFINITION. The slots of the Inspection Memory (R112 to R118). -/

namespace Sys2Proof.Machine

/-- Number of slots (R112). -/
def slotCount : Nat := 2048

/-- The primary slot of a key (R113). -/
def primarySlot (k : Key) : Nat := (k.serial % slotCount + 341 * k.auth) % slotCount

/-- The alternate slot of a key (R113). -/
def alternateSlot (k : Key) : Nat := (primarySlot k + 1024) % slotCount

/-- The entry of a key at one slot. -/
def sightingAt (slots : List (Nat × Sighting)) (k : Key) (i : Nat) : Option (Nat × Sighting) :=
  match lookupAt slots i with
  | some e => if e.key = k then some (i, e) else none
  | none => none

/-- The slot and entry of a key, looked for at its primary and then its alternate slot (R115). -/
def findSighting (slots : List (Nat × Sighting)) (k : Key) : Option (Nat × Sighting) :=
  match sightingAt slots k (primarySlot k) with
  | some r => some r
  | none => sightingAt slots k (alternateSlot k)

/-- A sighting is inside the window when the time since it is W or less (R114). -/
def insideWindow (window : Nat) (sighting now : Time) : Bool := decide (minutesSince sighting now ≤ window)

/-- The answer of the probe (R115). -/
inductive Probe where
  | notFound
  | duplicate
  | found (trip : TripState)
  deriving DecidableEq, Repr

/-- R115: a duplicate needs W above 0, both coaches known and different, and the sighting inside the window. -/
def isDuplicate (window coach : Nat) (now : Time) (e : Sighting) : Bool :=
  decide (0 < window) && e.coach != 0 && coach != 0 && e.coach != coach && insideWindow window e.time now

/-- The probe of stage 7 (R115). -/
def probe (slots : List (Nat × Sighting)) (k : Key) (window coach : Nat) (now : Time) : Probe :=
  match findSighting slots k with
  | none => .notFound
  | some (_, e) => if isDuplicate window coach now e then .duplicate else .found e.trip

/-- The slot an insertion is given (R117); none when both occupants are PENDING or TAKEN. -/
def insertionSlot (slots : List (Nat × Sighting)) (k : Key) : Option Nat :=
  match lookupAt slots (primarySlot k), lookupAt slots (alternateSlot k) with
  | none, _ => some (primarySlot k)
  | some _, none => some (alternateSlot k)
  | some p, some a =>
    if p.trip = .none ∧ a.trip = .none then
      if a.time.before p.time then some (alternateSlot k) else some (primarySlot k)
    else if p.trip = .none then some (primarySlot k)
    else if a.trip = .none then some (alternateSlot k)
    else none

/-- What stage 14 hands the memory (R93). -/
structure SightingUpdate where
  key : Key
  product : Nat
  coach : Nat
  now : Time
  cls : VClass
  deriving DecidableEq, Repr

/-- R116: the entry found takes the product code, coach and class, and its sighting time is renewed only outside
the window. -/
def updatedSighting (window : Nat) (u : SightingUpdate) (e : Sighting) : Sighting :=
  { e with product := u.product, coach := u.coach, lastClass := u.cls,
           time := if insideWindow window e.time u.now then e.time else u.now }

/-- R117: the entry of a key that was not found. -/
def newSighting (u : SightingUpdate) : Sighting :=
  { key := u.key, product := u.product, time := u.now, coach := u.coach, lastClass := u.cls, trip := .none }

/-- Stage 14 in the memory (R116, R117): the slots after it, and whether the presentation is remembered. -/
def remember (slots : List (Nat × Sighting)) (window : Nat) (u : SightingUpdate) :
    List (Nat × Sighting) × Bool :=
  match findSighting slots u.key with
  | some (i, e) => (putAt slots i (updatedSighting window u e), true)
  | none =>
    match insertionSlot slots u.key with
    | some i => (putAt slots i (newSighting u), true)
    | none => (slots, false)

/-- The trip state of a key's entry, none when it is not held. -/
def tripOf (slots : List (Nat × Sighting)) (k : Key) : Option TripState :=
  (findSighting slots k).map fun r => r.2.trip

/-- The slots with the trip state of a key's entry set, when it is held. -/
def setTrip (slots : List (Nat × Sighting)) (k : Key) (t : TripState) : List (Nat × Sighting) :=
  match findSighting slots k with
  | none => slots
  | some (i, e) => putAt slots i { e with trip := t }

/-- An entry of trip state PENDING or TAKEN (R112, R117). -/
def protectedSighting (e : Sighting) : Bool := e.trip != .none

end Sys2Proof.Machine
end

