-- ==== Sys2Proof/Machine/JournalOps.lean ====
section
/-! DEFINITION. The Journal's shared operations: the ring as read from its flash, the offering and queueing of
entries with what each producer is told, and FULL (R129 to R138). -/

namespace Sys2Proof.Machine

/-! ## The ring -/

/-- Sectors in the ring (R129). -/
def sectorCount : Nat := 64

/-- Most entries in the write queue (R133). -/
def writeQueueLimit : Nat := 8

/-- The highest sequence number given (R131). -/
def lastSequence : Nat := 4294967295

/-- The programmed slots of a sector. -/
def sectorSlots (slots : List (Nat × JSlot)) (k : Nat) : List (Nat × JSlot) :=
  slots.filter fun x => sectorOf x.1 == k

/-- The complete entries of a sector. -/
def sectorEntries (slots : List (Nat × JSlot)) (k : Nat) : List Entry :=
  ((completeEntries slots).filter fun x => sectorOf x.1 == k).map Prod.snd

/-- The greatest of some numbers, 0 of none. -/
def greatest (l : List Nat) : Nat := l.foldl max 0

/-- The least of some numbers, 0 of none. -/
def least : List Nat → Nat
  | [] => 0
  | x :: rest => rest.foldl min x

/-- The sequence numbers of the complete entries. -/
def completeNumbers (slots : List (Nat × JSlot)) : List Nat := (completeEntries slots).map fun x => x.2.seq

/-- The highest complete sequence number, 0 when no entry is complete (R129). -/
def Journal.highest (j : Journal) : Nat := greatest (completeNumbers j.slots)

/-- The oldest retained sequence number, 0 when no entry is retained (R135). -/
def Journal.oldest (j : Journal) : Nat := least (completeNumbers j.slots)

/-- State of a sector (R129). -/
inductive SectorState where
  | erased
  | inUse
  | erasing
  deriving DecidableEq, Repr

/-- R129: a sector is ERASING while its erase is in flight, and IN_USE when a slot of it has been programmed, the
program in flight included. -/
def Journal.sectorState (j : Journal) (k : Nat) : SectorState :=
  if j.op = some (.erase k) then .erasing
  else if (sectorSlots j.slots k).isEmpty && !(j.op == some .program && j.headSector == k) then .erased
  else .inUse

/-- R134: the sector after the head sector in ring order. -/
def Journal.ahead (j : Journal) : Nat := (j.headSector + 1) % sectorCount

/-- R135, apart from the head sector: every complete entry of the sector is at or below a mark. -/
def takenOff (slots : List (Nat × JSlot)) (mark k : Nat) : Bool :=
  (sectorEntries slots k).all fun e => decide (e.seq ≤ mark)

/-- R135: a sector is reclaimable. -/
def Journal.reclaimable (j : Journal) (k : Nat) : Bool :=
  decide (k ≠ j.headSector) && takenOff j.slots j.mark k

/-- R134: an entry fits when it occupies no more slots than are left in the head sector. -/
def Journal.fits (j : Journal) (b : EntryBody) : Bool := decide (entrySlots b ≤ slotsPerSector - j.headSlot)

/-- R141: the export stream holds an entry of the sector. -/
def streamHolds (stream : List Nat) (slots : List (Nat × JSlot)) (k : Nat) : Bool :=
  (sectorEntries slots k).any fun e => stream.contains e.seq

/-- A CLOSED entry in the write queue. -/
def closedQueued (q : List Entry) : Bool := q.any fun e => e.body == .closed

/-- R135, fourth condition: the modes in which erases are due. A restart counts as its drain until it takes effect (log
entry 42). -/
def eraseMode (j : Journal) (restarting : Bool) : Bool :=
  match j.mode with
  | .recovering => false
  | .opened => true
  | .shutting => true
  | .shut => restarting || closedQueued j.queue

/-- R135: the erase of the sector ahead is due. -/
def eraseDue (s : State) : Bool :=
  s.journal.sectorState s.journal.ahead == .inUse && s.journal.reclaimable s.journal.ahead
    && !streamHolds s.port.stream s.journal.slots s.journal.ahead && !s.safe
    && eraseMode s.journal s.restarting

/-! ## Notices of the Journal -/

/-- The highest sequence number held in the sector ahead (R137). -/
def Journal.highestAhead (j : Journal) : Nat := greatest ((sectorEntries j.slots j.ahead).map Entry.seq)

/-- R131, R137: the JOURNAL_FULL notice. -/
def fullNotice (cause : FullCause) (dropped : Nat) (s : State) : State :=
  notice
    (.journalFull cause dropped s.journal.headSector s.journal.mark s.journal.highest s.journal.highestAhead) s

/-- The number of sectors recovery erased (R146). -/
def Journal.recoveryErased (j : Journal) : Nat := (j.recovery.map Recovery.erased).getD 0

/-- R146: the STARTED notice. -/
def startedNotice (cause : StartCause) (seq : Option Nat) (s : State) : State :=
  notice
    (.started cause seq s.tables.activeIndex s.tables.activeGeneration s.tables.activeEpochDay
      s.journal.headSector s.journal.headSlot s.journal.mark s.journal.highest s.journal.oldest
      s.journal.recoveryErased s.supplyLow) s

/-- R124: the CONSUME_RESOLVED notice of a resolution whose entry was queued with a number or dropped. -/
def resolvedNotice (r : Resolution) (seq : Option Nat) (s : State) : State :=
  notice (.consumeResolved r.tag r.key r.outcome (tripOf s.memory.slots r.key) seq) s

/-! ## The producers -/

/-- The entry of the control place (R143). -/
def ControlItem.body : ControlItem → EntryBody
  | .note bytes => .note bytes
  | .mark value _ => .mark value
  | .started cause generation => .started cause generation
  | .closed => .closed

/-- The entry in a producer's place (08 section 8.2), with the run number that R130 fixes before the queueing. -/
def draftOf (s : State) : Producer → Option Draft
  | .evaluator =>
    match s.evaluator with
    | .awaiting c v .place =>
      some { body := .verdict v c.pres.source c.pres.medium c.pres.key c.pres.product, run := some c.snap.run }
    | _ => none
  | .position => s.position.outgoing.map fun o => { body := o.body, run := none }
  | .tables => s.tables.outgoing.map fun b => { body := b, run := none }
  | .memory => s.memory.resolutions.head?.map fun r => { body := .consume r.tag r.key r.outcome, run := some r.run }
  | .control => s.journal.control.map fun c => { body := c.body, run := none }

/-- The reply of a command whose entry was queued or dropped (R142, R143, R147, R155). -/
def entryReply (st : Status) (before : List Byte) : Option Nat → Reply
  | some seq => { status := st, mark := .none, content := before ++ be4 seq }
  | none => { status := st, mark := .unjournaled, content := before ++ be4 0 }

/-- R143, R146, R147: what follows when the entry of the control place has been queued with a number, or
dropped. The CLOSED entry's response waits for its completion when it was queued. -/
def controlTold (c : ControlItem) (seq : Option Nat) (s : State) : State :=
  let s := s.setJournal { s.journal with control := none }
  match c with
  | .note _ => produce clsNote (entryReply .ok [] seq) s
  | .mark value clamped =>
    produce clsExportMark (entryReply (if clamped then .okClamped else .ok) (be4 value) seq) s
  | .started cause _ => startedNotice cause seq s
  | .closed =>
    let s := s.setJournal { s.journal with mode := .shut }
    match seq with
    | some _ => s
    | none => produce clsShutdown { status := .ok, mark := .unjournaled, content := [] } s

/-- R31, R34: the Position Unit's entry has been queued or dropped. The response is the same for both, without the mark
UNJOURNALED when the entry was dropped (log entry 49). -/
def positionTold (s : State) : State :=
  match s.position.outgoing with
  | none => s
  | some o => produce o.cls (Reply.with .ok o.content) (s.setPosition { s.position with outgoing := none })

/-- R73: the Table Store's entry has been queued or dropped; an immediate commit is answered, without the mark UNJOURNALED
when the entry was dropped (log entry 49). -/
def tablesTold (s : State) : State :=
  match s.tables.outgoing with
  | some (.commit generation _ _ .immediate) =>
    produce clsLoadCommit (Reply.with .ok (be4 generation)) (s.setTables { s.tables with outgoing := none })
  | some _ => s.setTables { s.tables with outgoing := none }
  | none => s

/-- R95: the VERDICT entry has been queued and the verdict record takes its number. -/
def evaluatorQueued (seq : Nat) (s : State) : State :=
  match s.evaluator with
  | .awaiting c v .place => s.setEvaluator (.awaiting c { v with seq := some seq } (.queued seq))
  | _ => s

/-- R95: a verdict without a journal entry. -/
def Verdict.unjournaled (v : Verdict) : Verdict :=
  { v with seq := none, flags := { v.flags with unjournaled := true } }

/-- R95: the VERDICT entry waiting for a place was dropped. -/
def evaluatorDropped (s : State) : State :=
  match s.evaluator with
  | .awaiting c v .place => s.setEvaluator (.awaiting c v.unjournaled .dropped)
  | _ => s

/-- R132: a producer joins the tail of the waiting list, at most once. -/
def joinWaiting (p : Producer) (s : State) : State :=
  if s.journal.waiting.contains p then s
  else s.setJournal { s.journal with waiting := s.journal.waiting ++ [p] }

/-- R124, R132: the head entry of the resolution queue has been queued; the memory joins the list again when others
remain. -/
def memoryQueued (seq : Nat) (s : State) : State :=
  match s.memory.resolutions with
  | [] => s
  | r :: rest =>
    let s := resolvedNotice r (some seq) (s.setMemory { s.memory with resolutions := rest })
    if rest.isEmpty then s else joinWaiting .memory s

/-- CONSUME_RESOLVED notices of dropped resolutions, from the head (R124). -/
def resolvedDropped : List Resolution → State → State
  | [], s => s
  | r :: rest, s => resolvedDropped rest (resolvedNotice r none s)

/-- R124: every entry of the resolution queue is dropped, from the head. -/
def memoryDropped (s : State) : State :=
  resolvedDropped s.memory.resolutions (s.setMemory { s.memory with resolutions := [] })

/-- What a producer does when its entry has been queued with a number (R132). -/
def tellQueued (p : Producer) (seq : Nat) (s : State) : State :=
  match p with
  | .evaluator => evaluatorQueued seq s
  | .position => positionTold s
  | .tables => tablesTold s
  | .memory => memoryQueued seq s
  | .control =>
    match s.journal.control with
    | none => s
    | some c => controlTold c (some seq) s

/-- What a producer does when its entry has been dropped (R132). -/
def tellDropped (p : Producer) (s : State) : State :=
  match p with
  | .evaluator => evaluatorDropped s
  | .position => positionTold s
  | .tables => tablesTold s
  | .memory => memoryDropped s
  | .control =>
    match s.journal.control with
    | none => s
    | some c => controlTold c none s

/-- Producers told that their entries are dropped, in order (R132). -/
def tellAllDropped : List Producer → State → State
  | [], s => s
  | p :: rest, s => tellAllDropped rest (tellDropped p s)

/-- The waiting list is told that its entries are dropped, and becomes empty (R131, R137). -/
def dropWaiting (s : State) : State :=
  tellAllDropped s.journal.waiting (s.setJournal { s.journal with waiting := [] })

/-! ## Queueing (R131, R132) -/

/-- R131: the last number has been given. The CONSUME_RESOLVED notices of dropped resolutions stand before JOURNAL_FULL
(log entry 48). -/
def exhaust (s : State) : State :=
  fullNotice .exhausted 0 (dropWaiting (s.setJournal { s.journal with full := some .exhausted }))

/-- R130: the entry of a draft as it is queued now. -/
def entryNow (s : State) (d : Draft) : Entry :=
  { seq := s.journal.nextSeq, time := s.position.clock, run := d.run.getD s.position.run, body := d.body }

/-- R131, R132: an entry takes the tail of the write queue, its number and its service time. -/
def queueEntry (e : Entry) (s : State) : State :=
  s.setJournal { s.journal with queue := s.journal.queue ++ [e], nextSeq := s.journal.nextSeq + 1 }

/-- R132: the entry in a producer's place is queued, and the producer is told; with the last number the Journal
becomes FULL (R131). -/
def enqueue (p : Producer) (s : State) : State :=
  match draftOf s p with
  | none => s
  | some d =>
    let told := tellQueued p s.journal.nextSeq (queueEntry (entryNow s d) s)
    if s.journal.nextSeq = lastSequence then exhaust told else told

/-- R132: entries offered are dropped: FULL, or SHUT outside the drain of a restart. -/
def dropping (s : State) : Bool :=
  s.journal.full.isSome || (s.journal.mode == .shut && !s.restarting)

/-- R132: the entry standing in a producer's place is offered. -/
def offer (p : Producer) (s : State) : State :=
  if dropping s then tellDropped p s
  else if s.journal.mode = .recovering then s
  else if s.journal.queue.length < writeQueueLimit ∧ s.journal.waiting = [] then enqueue p s
  else joinWaiting p s

/-! ## FULL (R137) -/

/-- What the loss of a queued entry means to its producer (R95, R147). -/
def tellQueueDropped (e : Entry) (s : State) : State :=
  match e.body with
  | .verdict .. =>
    match s.evaluator with
    | .awaiting c v (.queued seq) =>
      if seq = e.seq then s.setEvaluator (.awaiting c v.unjournaled .dropped) else s
    | _ => s
  | .closed => produce clsShutdown { status := .ok, mark := .unjournaled, content := [] } s
  | _ => s

/-- The entries of the write queue dropped, from the head to the tail (R137). -/
def dropEntries : List Entry → State → State
  | [], s => s
  | e :: rest, s => dropEntries rest (tellQueueDropped e s)

/-- R137: the Journal becomes FULL for want of a sector, and its notice carries NO_SECTOR; numbers already exhausted stay
the cause that stands (log entry 20). The CONSUME_RESOLVED notices of the resolutions dropped stand before JOURNAL_FULL
(log entry 48). -/
def becomeFull (s : State) : State :=
  let standing := s.journal.full.getD .noSector
  fullNotice .noSector s.journal.queue.length
    (dropWaiting (dropEntries s.journal.queue (s.setJournal { s.journal with full := some standing, queue := [] })))

/-- R134: the entry at the head of the write queue does not fit, and the sector ahead is IN_USE and not
reclaimable. -/
def noSectorAhead (j : Journal) : Bool :=
  j.sectorState j.ahead == .inUse && !j.reclaimable j.ahead

/-- R134, R136: the head entry of the write queue does not fit. -/
def headBlocked (j : Journal) : Bool :=
  match j.queue with
  | [] => false
  | e :: _ => !j.fits e.body

/-! ## Resolutions (R124) -/

/-- Most entries in the resolution queue (R124). -/
def resolutionLimit : Nat := 4

/-- R124: a resolution produces its CONSUME entry, queued, held or dropped; a fifth is dropped while four wait. -/
def resolve (tag : Nat) (key : Key) (outcome : ConsumeOutcome) (s : State) : State :=
  let r : Resolution := { tag := tag, key := key, outcome := outcome, run := s.position.run }
  if resolutionLimit ≤ s.memory.resolutions.length then resolvedNotice r none s
  else
    let s' := s.setMemory { s.memory with resolutions := s.memory.resolutions ++ [r] }
    if s.memory.resolutions.isEmpty then offer .memory s' else s'

/-- CLEARED notices of pending-consume entries, in list order (R125). -/
def clearedNotices : List PendingConsume → State → State
  | [], s => s
  | p :: rest, s => clearedNotices rest (notice (.consumeResolved p.tag p.key .cleared none none) s)

/-- R125: every slot becomes free, and every entry leaves the pending-consume list with its CLEARED notice. -/
def clearMemory (s : State) : State :=
  clearedNotices s.memory.pendingList
    (s.setMemory { s.memory with slots := [], pendingList := [], clearDeferred := false })

/-! ## The end of an evaluation -/

/-- R97, R100: the pin is released, the Evaluator becomes IDLE, and a deferred clearing takes effect. -/
def endEvaluation (s : State) : State :=
  let pinned := s.evaluator.context.bind EvalContext.bank
  let s := (releasePin pinned s).setEvaluator .idle
  if s.memory.clearDeferred then clearMemory s else s

end Sys2Proof.Machine
end

