-- ==== Sys2Proof/Machine/Placement.lean ====
section
/-! DEFINITION. The checks and the placement of LOAD_OPEN (R59 to R63). -/

namespace Sys2Proof.Machine

/-- How a manifest is refused: the status, the failing check 1..3 and the manifest position byte (R59, spec
11.5). -/
structure OpenRefusal where
  status : Status
  check : Nat
  position : Byte
  deriving DecidableEq, Repr

/-- The position byte that names the authority declarations (spec 11.5). -/
def authoritiesPosition : Byte := 255

/-- R60: the authority declarations number 1..6, codes and ranks are 1..6, and none repeats. -/
def authsOk (l : List AuthDecl) : Bool :=
  decide (1 ≤ l.length) && decide (l.length ≤ 6)
    && (l.all fun a => decide (1 ≤ a.code) && decide (a.code ≤ 6) && decide (1 ≤ a.rank) && decide (a.rank ≤ 6))
    && decide (l.map AuthDecl.code).Nodup && decide (l.map AuthDecl.rank).Nodup

/-- The most records a segment of a kind may declare (R60). -/
def maxRecords : SegKind → Nat
  | .routes => 512
  | .tones => 12
  | .revocation => 4096
  | .rates => 1
  | .zones => 63
  | .products => 512

/-- Kinds held once and shared (R60). -/
def sharedKind : SegKind → Bool
  | .routes | .tones | .revocation => true
  | .rates | .zones | .products => false

/-- A segment declaration of a declared kind and placement code (R60). -/
def segDeclOf (r : RawSeg) : Option SegDecl :=
  match segKindOf r.kind with
  | none => none
  | some kind =>
    if r.placement = 0 then some { kind := kind, auth := r.auth, count := r.count, fixedAt := none }
    else if r.placement = 1 then some { kind := kind, auth := r.auth, count := r.count, fixedAt := some r.block }
    else none

/-- R60 for one segment declaration, given those before it: of two of the same kind and authority the later one fails (log
entry 50). -/
def segDeclOk (auths : List AuthDecl) (earlier : List SegDecl) (d : SegDecl) : Bool :=
  (if sharedKind d.kind then d.auth == 0 else auths.any fun a => a.code == d.auth)
    && !(earlier.any fun e => e.kind == d.kind && e.auth == d.auth)
    && decide (1 ≤ d.count) && decide (d.count ≤ maxRecords d.kind)

/-- The segment declarations in manifest order, or the position of the first that fails (R60). -/
def readSegs (auths : List AuthDecl) (earlier : List SegDecl) : List RawSeg → Except Nat (List SegDecl)
  | [] => .ok earlier
  | r :: rest =>
    match segDeclOf r with
    | none => .error earlier.length
    | some d => if segDeclOk auths earlier d then readSegs auths (earlier ++ [d]) rest else .error earlier.length

/-- R60: ROUTES is declared, and every declared authority has its RATES, ZONES and PRODUCTS. -/
def segsComplete (auths : List AuthDecl) (l : List SegDecl) : Bool :=
  (l.any fun d => d.kind == .routes)
    && auths.all fun a =>
      [SegKind.rates, SegKind.zones, SegKind.products].all fun k => l.any fun d => d.kind == k && d.auth == a.code

/-- The declarations check (R59, R60): the generation first, then the authorities, then the segments. -/
def checkDeclarations (activeGeneration : Nat) (r : RawManifest) : Except OpenRefusal Manifest :=
  if r.generation = 0 ∨ r.generation ≤ activeGeneration then
    .error { status := .badArg, check := 1, position := Config.openRefusalPosition 0 }
  else if !authsOk r.auths then .error { status := .badArg, check := 1, position := authoritiesPosition }
  else
    match readSegs r.auths [] r.segs with
    | .error i => .error { status := .badArg, check := 1, position := BitVec.ofNat 8 i }
    | .ok segs =>
      if segsComplete r.auths segs then
        .ok { generation := r.generation, epochDay := r.epochDay, auths := r.auths, segs := segs }
      else .error { status := .badArg, check := 1, position := Config.openRefusalPosition 1 }

/-- R61: a segment's length in blocks. -/
def segLength (d : SegDecl) : Nat := (d.count * recordSize d.kind d.count + 255) / 256

/-- R61: the alignment of a floating segment by its length. -/
def alignment (len : Nat) : Nat :=
  if len ≤ 1 then 1 else if len = 2 then 2 else if len ≤ 4 then 4 else if len ≤ 8 then 8 else 16

/-- A span of blocks: first block and length. -/
abbrev Span := Nat × Nat

/-- R61: two spans overlap when they share a block. -/
def overlaps (a b : Span) : Bool := decide (a.1 < b.1 + b.2) && decide (b.1 < a.1 + a.2)

/-- R62: the fixed segments in manifest order, their ends and their overlaps; the spans when none fails. -/
def checkFixed (position : Nat) (earlier : List Span) : List SegDecl → Except OpenRefusal (List Span)
  | [] => .ok earlier
  | d :: rest =>
    match d.fixedAt with
    | none => checkFixed (position + 1) earlier rest
    | some b =>
      if 256 < b + segLength d then
        .error { status := .noRoom, check := 2, position := BitVec.ofNat 8 position }
      else if earlier.any (overlaps (b, segLength d)) then
        .error { status := .overlap, check := 2, position := BitVec.ofNat 8 position }
      else checkFixed (position + 1) (earlier ++ [(b, segLength d)]) rest

/-- The lowest multiple of `a` not below `n`. -/
def alignUp (n a : Nat) : Nat := (n + a - 1) / a * a

/-- The fixed segment overlapping a span that starts lowest (R63). -/
def lowestOverlap (fixed : List Span) (s : Span) : Option Span :=
  (fixed.filter (overlaps s)).foldl
    (fun best x => match best with
      | none => some x
      | some b => if x.1 < b.1 then some x else some b) none

/-- R63: the candidate block moved past overlapping fixed segments; none when it no longer fits in 256 blocks.
Each move goes past the end of a fixed segment, so one move for each fixed segment is enough. -/
def placeFrom (fixed : List Span) (len : Nat) : Nat → Nat → Option Nat
  | 0, _ => none
  | fuel + 1, candidate =>
    if 256 < candidate + len then none
    else
      match lowestOverlap fixed (candidate, len) with
      | none => some candidate
      | some f => placeFrom fixed len fuel (alignUp (f.1 + f.2) (alignment len))

/-- R63: the block of one floating segment from a cursor. -/
def placeOne (fixed : List Span) (cursor len : Nat) : Option Nat :=
  placeFrom fixed len (fixed.length + 1) (alignUp cursor (alignment len))

/-- Authority codes in ascending rank (R63). -/
def authsByRank (l : List AuthDecl) : List Nat :=
  [1, 2, 3, 4, 5, 6].filterMap fun r => (l.find? fun a => a.rank == r).map AuthDecl.code

/-- The order in which floating segments are placed (R63). -/
def placementOrder (auths : List AuthDecl) : List (SegKind × Nat) :=
  [(SegKind.routes, 0)]
    ++ (authsByRank auths).flatMap (fun a => [(SegKind.rates, a), (SegKind.zones, a), (SegKind.products, a)])
    ++ [(SegKind.tones, 0), (SegKind.revocation, 0)]

/-- The first block given to each segment so far, by kind and authority. -/
abbrev Placed := List ((SegKind × Nat) × Nat)

/-- R63: the floating segments placed one at a time from a cursor; an error names a manifest position. -/
def placeFloating (segs : List SegDecl) (fixed : List Span) (cursor : Nat) (placed : Placed) :
    List (SegKind × Nat) → Except Nat Placed
  | [] => .ok placed
  | k :: rest =>
    match segs.findIdx? fun d => d.kind == k.1 && d.auth == k.2 && d.fixedAt.isNone with
    | none => placeFloating segs fixed cursor placed rest
    | some i =>
      let len := (segs[i]?.map segLength).getD 0
      match placeOne fixed cursor len with
      | none => .error i
      | some b => placeFloating segs fixed (b + len) (placed ++ [(k, b)]) rest

/-- The directory in manifest order (R63). -/
def directoryOf (segs : List SegDecl) (placed : Placed) : List DirEntry :=
  segs.map fun d =>
    { kind := d.kind, auth := d.auth, count := d.count,
      first := d.fixedAt.getD ((placed.lookup (d.kind, d.auth)).getD 0), length := segLength d }

/-- R59: the three checks in their order, giving the manifest and its directory or the first failure. -/
def openManifest (activeGeneration : Nat) (r : RawManifest) : Except OpenRefusal (Manifest × List DirEntry) :=
  match checkDeclarations activeGeneration r with
  | .error e => .error e
  | .ok m =>
    match checkFixed 0 [] m.segs with
    | .error e => .error e
    | .ok fixed =>
      match placeFloating m.segs fixed 0 [] (placementOrder m.auths) with
      | .error i => .error { status := .noRoom, check := 3, position := BitVec.ofNat 8 i }
      | .ok placed => .ok (m, directoryOf m.segs placed)

end Sys2Proof.Machine
end

