-- ==== Sys2Proof/Machine/TableOps.lean ====
section
/-! DEFINITION. The Table Store's shared operations: the start-up choice, the target bank, record frames, commits
and the position check that follows one (R36, R57, R64 to R74). -/

namespace Sys2Proof.Machine

/-! ## Start-up -/

/-- R56: a commit mark is valid when its check agrees and its generation copy equals the header's. -/
def Bank.markValid (b : Bank) : Bool :=
  match b.header, b.mark with
  | some h, .programmed g true => g == h.manifest.generation
  | _, _ => false

/-- R57: the bank the start-up choice makes ACTIVE. -/
def startupChoice (b0 b1 : Bank) : Option Nat :=
  match b0.markValid, b1.markValid with
  | true, false => some 0
  | false, true => some 1
  | true, true => if b0.generation < b1.generation then some 1 else some 0
  | false, false => none

/-- R57: a bank with the role the choice gives it, and no pin. -/
def Bank.atStart (b : Bank) (active : Bool) : Bank :=
  { b with role := if active then .active else .staging, pins := 0 }

/-- R57: the Table Store after the start-up choice. -/
def TableStore.atStart (t : TableStore) : TableStore :=
  let choice := startupChoice t.bank0 t.bank1
  { TableStore.initial with bank0 := t.bank0.atStart (choice == some 0), bank1 := t.bank1.atStart (choice == some 1) }

/-! ## The load in progress -/

/-- The load engine's state as its frames find it: a commit that has begun is COMMITTING (R70 to R72). -/
def TableStore.engineNow (t : TableStore) : EngineState := if t.commitDue.isSome then .committing else t.engine

/-- R64: the target bank: the one that is not ACTIVE, bank 0 when none is. -/
def TableStore.targetBank (t : TableStore) : Nat := if t.activeIndex = some 0 then 1 else 0

/-- The target bank of the load in progress. -/
def TableStore.loadTarget (t : TableStore) : Nat := (t.load.map Load.target).getD 0

/-- R65: the load engine waits for a pin: OPENING with its target bank RETIRING. -/
def TableStore.pinWait (t : TableStore) : Bool :=
  t.engine == .opening && (t.bank t.loadTarget).role == .retiring

/-- R64: the load an accepted manifest begins. -/
def loadOf (target : Nat) (m : Manifest) (d : List DirEntry) : Load :=
  { target := target, manifest := m, directory := d, received := d.map fun _ => [] }

/-- Sectors in a bank, and the bytes of one (04 section 4.1). -/
def tableSectors : Nat := 16
def tableSectorBytes : Nat := 4096

/-- A bank with one sector erased; sector 0 takes the header area with it (R65). -/
def Bank.eraseSector (b : Bank) (k : Nat) : Bank :=
  let erased := { b with mem := dropRange b.mem (k * tableSectorBytes) ((k + 1) * tableSectorBytes) }
  if k = 0 then { erased with header := none, mark := .erased } else erased

/-- R65: the erase of the next sector may start: OPENING, nothing in flight, sectors left, the target STAGING and
unpinned, no SAFE, and no restart under way (R66, R75). -/
def stagingEraseReady (s : State) : Bool :=
  s.tables.engine == .opening && s.tables.op.isNone && decide (s.tables.erased < tableSectors)
    && (s.tables.bank s.tables.loadTarget).role == .staging
    && (s.tables.bank s.tables.loadTarget).pins == 0 && !s.safe && !s.restarting

/-- The erase of the next sector starts when it may (R65, R66). -/
def startErase (s : State) : State :=
  if stagingEraseReady s then
    s.setTables { s.tables with op := some (.eraseSector s.tables.loadTarget s.tables.erased) }
  else s

/-- R65: with sector 15 erased the header program starts; no flash operation starts in a restart (R75). -/
def startHeader (s : State) : State :=
  if s.tables.erased = tableSectors ∧ s.restarting = false then
    s.setTables { s.tables with op := some (.headerProgram s.tables.loadTarget) }
  else s

/-- The load engine IDLE, the load released (R72, R74). -/
def TableStore.endLoad (t : TableStore) : TableStore :=
  { t with engine := .idle, load := none, erased := 0, schedule := none, abandoning := false }

/-- R74: an OPENING is given up: the held LOAD_OPEN ends ABANDONED. -/
def abandonOpen (s : State) : State :=
  produce clsLoadOpen { status := .badState, mark := .abandoned, content := [] } (s.setTables s.tables.endLoad)

/-- R74: the OK of a LOAD_ABANDON carries the state abandoned from. -/
def abandonReply (e : EngineState) : Reply := Reply.with .ok (be1 e.wire)

/-- R74: the operation a LOAD_ABANDON waited for has completed. -/
def abandonNow (s : State) : State := produceAll clsLoadAbandon (abandonReply .opening) (abandonOpen s)

/-- The content of a LOAD_OPEN's OK (spec 11.5). -/
def openContent (l : Load) : List Byte :=
  be1 l.target ++ be4 l.manifest.generation ++ be1 l.directory.length ++ l.directory.flatMap dirEntryBytes

/-! ## Records -/

/-- The records of a frame: `n` of them, `size` bytes each. -/
def cutRecords (size : Nat) : Nat → List Byte → List (List Byte)
  | 0, _ => []
  | n + 1, data => data.take size :: cutRecords size n (data.drop size)

/-- Records with their indices from a first index. -/
def numbered (i : Nat) : List (List Byte) → List (Nat × List Byte)
  | [] => []
  | r :: rest => (i, r) :: numbered (i + 1) rest

/-- R67: the checks of a LOAD_RECORD, the directory entry when they pass. -/
def recordFrameEntry (l : Load) (f : RecordFrame) : Option DirEntry :=
  match l.directory[f.position]? with
  | none => none
  | some e =>
    if f.count = 0 ∨ 32 < f.count then none
    else if e.count < f.first + f.count then none
    else if f.data.length ≠ f.count * recordSize e.kind e.count then none
    else some e

/-- The received-record set of a segment. -/
def Load.receivedAt (l : Load) (position : Nat) : List Nat := l.received.getD position []

/-- The records of a frame with their indices. -/
def frameRecords (e : DirEntry) (f : RecordFrame) : List (Nat × List Byte) :=
  numbered f.first (cutRecords (recordSize e.kind e.count) f.count f.data)

/-- R68: the lowest index in conflict: received, with other content in what is read of it (R173). -/
def recordConflict (mem : List Host.Cell) (e : DirEntry) (received : List Nat) (rs : List (Nat × List Byte)) :
    Option Nat :=
  (rs.find? fun r =>
    received.contains r.1 && readPart e.kind 0 (recordBytes mem e r.1) != readPart e.kind 0 r.2).map Prod.fst

/-- R68: the records not yet received. -/
def newRecords (received : List Nat) (rs : List (Nat × List Byte)) : List (Nat × List Byte) :=
  rs.filter fun r => !received.contains r.1

/-- R68: records programmed into their places. -/
def programRecords (e : DirEntry) : List (Nat × List Byte) → List Host.Cell → List Host.Cell
  | [], mem => mem
  | (i, bytes) :: rest, mem => programRecords e rest (writeBytes mem (recordAddr e i) bytes)

/-- R68: indices join the received-record set of a segment. -/
def Load.receive (l : Load) (position : Nat) (indices : List Nat) : Load :=
  { l with received := l.received.set position (l.receivedAt position ++ indices) }

/-- The lowest index below a count that is not in a set. -/
def firstMissing (count : Nat) (received : List Nat) : Option Nat :=
  (List.range count).find? fun i => !received.contains i

/-- R69: the first segment in manifest order that lacks a record, with its lowest missing index. -/
def missingRecord (position : Nat) : List DirEntry → List (List Nat) → Option (Nat × Nat)
  | [], _ => none
  | e :: rest, received =>
    match firstMissing e.count (received.headD []) with
    | some i => some (position, i)
    | none => missingRecord (position + 1) rest received.tail

/-- The content of CLOSE_FAILED: kind, manifest position, record index (spec 11.5). -/
def closeFailed (kind : Nat) (at_ : Nat × Nat) : Reply :=
  Reply.with .closeFailed (be1 kind ++ be1 at_.1 ++ be2 at_.2)

/-! ## Commit -/

/-- R70, R71: a commit begins: the scheduled time becomes absent. -/
def beginCommit (kind : CommitKind) (s : State) : State :=
  s.setTables { s.tables with schedule := none, commitDue := some kind }

/-- R71: a new clock value reaches the scheduled time, unless a restart is under way. -/
def scheduleReached (s : State) : Bool :=
  s.tables.engineNow == .scheduled && !s.restarting
    && match s.tables.schedule with
       | none => false
       | some t => t.atOrBefore s.position.clock

/-- R19, R71: the new clock value is given to the Table Store. -/
def clockChanged (s : State) : State := if scheduleReached s then beginCommit .scheduled s else s

/-- R72: the role of the bank that was not committed. -/
def Bank.otherRole (b : Bank) : BankRole :=
  if b.role = .active then (if 0 < b.pins then .retiring else .staging) else b.role

/-- R72: the banks at commit completion: the target ACTIVE with its mark, the other by its pins. -/
def TableStore.committed (t : TableStore) (target : Nat) : TableStore :=
  let b := t.bank target
  let o := t.bank (1 - target)
  ({ t with commitDue := none, op := none }.setBank target
      { b with role := .active, mark := .programmed b.generation true }).setBank (1 - target)
    { o with role := o.otherRole }

/-- The index that must lie within a route for a position to keep its meaning (R36). -/
def PosState.reach : PosState → Nat
  | .unknown => 0
  | .atStop k => k
  | .between k => k + 1

/-- R36: a position is lost against a newly active bank. -/
def positionLostIn (b : Bank) (pos : PosState) (route length : Nat) : Bool :=
  !routePresent b route || routeLength b route != length || decide (routeLength b route < pos.reach)

/-- R36: the position check at commit completion. -/
def checkPosition (s : State) : State :=
  match s.position.route, s.position.length, s.tables.active with
  | some route, some length, some b =>
    if s.position.pos ≠ .unknown ∧ positionLostIn b s.position.pos route length = true then
      notice (.positionLost s.position.pos route length s.tables.activeGeneration)
        (s.setPosition { s.position with pos := .unknown, route := none, length := none })
    else s
  | _, _, _ => s

end Sys2Proof.Machine
end

