-- ==== Sys2Proof/Machine/Power.lean ====
section
/-! DEFINITION. POWER_ON, POWER_LOSS and the supply-low line (R18, R75, R149, R150). -/

namespace Sys2Proof.Machine

/-! ## What a loss of supply leaves in flash -/

/-- R150: the slots of the entry being programmed are torn. -/
def tearSlots (base : Nat) : Nat → List (Nat × JSlot) → List (Nat × JSlot)
  | 0, slots => slots
  | n + 1, slots => tearSlots base n (putAt slots (base + n) .torn)

/-- One slot of a sector whose erase was cut (R145): some old entries may stay readable. -/
def cutSlot (occurrence : Nat) (x : Nat × JSlot) : Option (Nat × JSlot) :=
  match Config.cutJournalSlot occurrence x.1 with
  | .kept => some x
  | .erased => none
  | .torn => some (x.1, .torn)

/-- R135, R150: an erase in flight leaves the sector damaged. -/
def cutSector (occurrence k : Nat) (slots : List (Nat × JSlot)) : List (Nat × JSlot) :=
  putAt (slots.filterMap fun x => if sectorOf x.1 = k then cutSlot occurrence x else some x)
    (k * slotsPerSector + (Config.cutJournalTornSlot occurrence).val) .torn

/-- The first slot of the head as a place in the ring. -/
def Journal.headPlace (j : Journal) : Nat := j.headSector * slotsPerSector + j.headSlot

/-- R133, R150: the journal flash after a loss of supply. -/
def Journal.cut (j : Journal) (occurrence : Nat) : List (Nat × JSlot) :=
  match j.op, j.queue with
  | some .program, e :: _ => tearSlots j.headPlace (entrySlots e.body) j.slots
  | some (.erase k), _ => cutSector occurrence k j.slots
  | _, _ => j.slots

/-- R75: bytes whose program or erase was cut read as free values, every one of them (log entry 14). -/
def cutBytes (occurrence a : Nat) : Nat → List Host.Cell → List Host.Cell
  | 0, m => m
  | n + 1, m => writeByte (cutBytes occurrence a n m) (a + n) (Config.cutTableByte occurrence (a + n))

/-- R75: the records whose program was cut. -/
def cutRecordBytes (occurrence : Nat) (e : DirEntry) : List (Nat × List Byte) → List Host.Cell → List Host.Cell
  | [], m => m
  | (i, bytes) :: rest, m =>
    cutRecordBytes occurrence e rest (cutBytes occurrence (recordAddr e i) bytes.length m)

/-- R56, R75: a bank whose sector erase was cut: each byte of the sector reads as a free value, one that read as erased
before included. That the header and the mark read as gone when sector 0 was cut is the model's choice: R56 says that no
valid mark is left (log entry 14). -/
def Bank.cutErase (b : Bank) (occurrence k : Nat) : Bank :=
  let cut := { b with mem := cutBytes occurrence (k * tableSectorBytes) tableSectorBytes b.mem }
  if k = 0 then { cut with header := none, mark := .erased } else cut

/-- R75: a bank whose commit mark was being programmed: complete, or torn. -/
def Bank.cutMark (b : Bank) (occurrence : Nat) : Bank :=
  { b with mark := .programmed b.generation (Config.markCompletedAtLoss occurrence) }

/-- R75: the banks after a loss of supply. That a cut header program leaves no header and an erased mark is the model's
choice: R56 says that no valid mark is left (log entry 14). -/
def TableStore.cut (t : TableStore) (occurrence : Nat) : TableStore :=
  match t.op with
  | none => t
  | some (.eraseSector n k) => t.setBank n ((t.bank n).cutErase occurrence k)
  | some (.headerProgram n) => t.setBank n { t.bank n with header := none, mark := .erased }
  | some (.recordProgram n position rs _) =>
    match t.load.bind fun l => l.directory[position]? with
    | none => t
    | some e => t.setBank n { t.bank n with mem := cutRecordBytes occurrence e rs (t.bank n).mem }
  | some (.markProgram n _) => t.setBank n ((t.bank n).cutMark occurrence)

/-- R150: what a loss of supply does to the two flash arrays; the free values are drawn by the counter. -/
def cutFlash (s : State) : State :=
  ((s.setJournal { s.journal with slots := s.journal.cut s.free }).setTables (s.tables.cut s.free)).nextFree

/-! ## Power-on -/

/-- The hold causes at power-on and when a warm restart takes effect (R10, R17, R18, R149). -/
def HoldCauses.atStart (low : Bool) : HoldCauses :=
  { depth := false, safe := low, shutdown := false, restarting := false }

/-- R18: the Reader Link Port at power-on, its first frame going out. -/
def ReaderPort.atPowerOn (low : Bool) : ReaderPort :=
  { rx := [], asSent := low, taps := [], sending := some (if low then .hold else .resume) }

/-- R144: the Journal as recovery begins. -/
def Journal.atStart (j : Journal) (warm : Bool) : Journal := { Journal.initial with slots := j.slots, warm := warm }

/-- Every block at its power-on values: R18, R19, R24, R30, R33, R35, R57, R76, R127, R144, 09 section 9.9, R171.
The flash keeps what it holds. -/
def boot (low : Bool) (s : State) : State :=
  { powered := true, timeBase := 0, nextTick := 60000, supplyLow := low, settings := Settings.defaults,
    reader := ReaderPort.atPowerOn low,
    intake := { queue := [], tagCounter := 0, causes := HoldCauses.atStart low },
    position := PositionUnit.initial, tables := s.tables.atStart, evaluator := .idle,
    memory := InspectionMemory.initial, journal := s.journal.atStart false, port := TerminalPort.initial,
    annunciator := Annunciator.initial, free := s.free, pending := s.pending }

/-- The part without supply: flash only (log entry 32). -/
def darken (s : State) : State :=
  { boot s.supplyLow s with powered := false, reader := { ReaderPort.atPowerOn s.supplyLow with sending := none } }

/-- POWER_LOSS (R150, R75): every operation stops where it stands and all volatile state is lost. -/
def execPowerLoss (s : State) : Host.Outcome State Fault Refusal :=
  .next (if s.powered then darken (cutFlash s) else s)

/-- POWER_ON (R18), with the line's state at that moment (R149). A part that still has supply loses it first (log
entry 27). -/
def execPowerOn (low : Bool) (s : State) : Host.Outcome State Fault Refusal :=
  .next (boot low (if s.powered then cutFlash s else s))

/-! ## The supply-low line -/

/-- The set of hold causes with SAFE as the line stands (R149). -/
def setSafe (low : Bool) (s : State) : State :=
  (s.setSupplyLow low).setIntake { s.intake with causes := { s.intake.causes with safe := low } }

/-- SUPPLY_LOW_ASSERTED (R149, R15). The SUPPLY_SAFE notice stands before the HOLD_STATE notice of R11 (log entry
39). -/
def execSupplyLowAsserted (s : State) : Host.Outcome State Fault Refusal :=
  act (!s.supplyLow) (fun s => notice .supplySafe (setSafe true s)) s

/-- SUPPLY_LOW_DEASSERTED (R149, R15). The SUPPLY_NORMAL notice stands before the HOLD_STATE notice of R11 (log entry
39). -/
def execSupplyLowDeasserted (s : State) : Host.Outcome State Fault Refusal :=
  act s.supplyLow (fun s => notice .supplyNormal (setSafe false s)) s

end Sys2Proof.Machine
end

