-- ==== Sys2Proof/Machine/Queries.lean ====
section
/-! DEFINITION. The replies of the four queries and the six settings of a CONFIG response, as bytes (R29, R39, R63,
R119, R161, R162, spec 11.5). -/

namespace Sys2Proof.Machine

/-- The six settings in the order of the CONFIG response (spec 11.5). -/
def settingsBytes (c : Settings) : List Byte :=
  be1 c.window ++ be1 c.policy.wire ++ be1 c.burst ++ be1 c.volume ++ be1 c.hold ++ be1 c.resume

/-- The part code (R162). -/
def partCode : Nat := 6420

/-- The port's items (R162). -/
def statusPort (s : State) : List Byte :=
  be1 s.port.responses.length ++ be1 (s.port.responses.filter fun r => r.reply.isNone).length
    ++ be1 s.port.notices.length ++ be1 s.port.dropped ++ be2 s.port.verdicts.length
    ++ be2 s.port.stream.length ++ settingsBytes s.settings

/-- The items of the Reader Link Port and the Intake Queue (R162). -/
def statusIntake (s : State) : List Byte :=
  be1 s.intake.queue.length ++ be1 s.intake.causes.wire ++ boolByte s.reader.asSent
    ++ be1 s.intake.tagCounter

/-- R39: the stop whose flags STATUS carries: stop k at AT_STOP(k), stop k+1 between. -/
def positionStop (s : State) : Option StopRec :=
  match s.tables.active, s.position.route, s.position.pos with
  | some b, some r, .atStop k => stopAt b r k
  | some b, some r, .between k => stopAt b r (k + 1)
  | _, _, _ => none

/-- BORDER bit 0, SPLIT bit 1, REQUEST bit 2 (spec 11.5). -/
def stopFlags : Option StopRec → Nat
  | none => 0
  | some r => r.border.toNat + 2 * r.split.toNat + 4 * r.request.toNat

/-- The Position Unit's items (R162). -/
def statusPosition (s : State) : List Byte :=
  timeBytes s.position.clock ++ boolByte s.position.valid ++ be1 s.position.debt
    ++ posBytes s.position.pos ++ be1 (absent0 s.position.route) ++ be1 (absent0 s.position.length)
    ++ be1 (stopFlags (positionStop s)) ++ be1 s.position.coach ++ bits16Bytes s.position.demand
    ++ be2 s.position.run

/-- One declared authority: code, rank, zone count (R38). -/
def authBytes (m : Manifest) (a : AuthDecl) : List Byte :=
  be1 a.code ++ be1 a.rank ++ be1 ((zoneCountIn m a.code).getD 0)

/-- The declared authorities of the ACTIVE bank (R38), in the order in which its manifest declares them (log entry 47). -/
def authoritiesBytes (t : TableStore) : List Byte :=
  match t.active.bind Bank.header with
  | none => be1 0
  | some h => be1 h.manifest.auths.length ++ h.manifest.auths.flatMap (authBytes h.manifest)

/-- The scheduled commit time, with its presence byte (R70); four bytes of 0 when it is absent (log entry 51). -/
def scheduleBytes (t : TableStore) : List Byte := presence 4 (t.schedule.map timeBytes)

/-- The records received in each segment of the load in progress (R68). -/
def receivedBytes (t : TableStore) : List Byte :=
  match t.load with
  | none => be1 0
  | some l => be1 l.directory.length ++ l.received.flatMap fun r => be2 r.length

/-- The erased-sector count of STATUS: the load engine keeps it when OPENING (04 section 4.3), and it is written as 0 in
the other states (log entry 40). -/
def TableStore.erasedShown (t : TableStore) : Nat := if t.engineNow = .opening then t.erased else 0

/-- The Table Store's items (R162). -/
def statusTables (s : State) : List Byte :=
  be1 s.tables.bank0.role.wire ++ be1 s.tables.bank0.pins ++ be1 s.tables.bank1.role.wire
    ++ be1 s.tables.bank1.pins ++ be4 s.tables.activeGeneration ++ bankByte s.tables.activeIndex
    ++ be2 s.tables.activeEpochDay ++ authoritiesBytes s.tables ++ be1 s.tables.engineNow.wire
    ++ be1 s.tables.erasedShown ++ boolByte s.tables.pinWait ++ scheduleBytes s.tables ++ receivedBytes s.tables

/-- The Evaluator's items (R162). -/
def statusEvaluator (s : State) : List Byte :=
  be1 s.evaluator.wire ++ be1 ((s.evaluator.context.map fun c => c.pres.tag).getD 0)
    ++ be4 ((s.evaluator.context.map EvalContext.generation).getD 0)

/-- The Inspection Memory's items (R162). -/
def statusMemory (s : State) : List Byte :=
  be2 s.memory.slots.length ++ be2 (s.memory.slots.filter fun x => protectedSighting x.2).length
    ++ be1 s.memory.pendingList.length ++ be1 s.memory.resolutions.length

/-- How many sectors are in a state (R129). -/
def Journal.sectorsIn (j : Journal) (st : SectorState) : Nat :=
  ((List.range sectorCount).filter fun k => j.sectorState k == st).length

/-- The Journal's items (R129). -/
def statusJournal (s : State) : List Byte :=
  be1 s.journal.mode.wire ++ be1 ((s.journal.full.map FullCause.wire).getD 0) ++ be1 s.journal.headSector
    ++ be1 s.journal.headSlot ++ be4 s.journal.mark ++ be4 s.journal.highest ++ be4 s.journal.oldest
    ++ be4 s.journal.nextSeq ++ be1 s.journal.queue.length ++ be1 s.journal.waiting.length
    ++ be1 s.settings.policy.wire ++ be1 (s.journal.sectorsIn .erased) ++ be1 (s.journal.sectorsIn .inUse)
    ++ be1 (s.journal.sectorsIn .erasing)

/-- The STATUS reply (R162). -/
def statusBytes (s : State) : List Byte :=
  be2 partCode ++ [Config.siliconRevision] ++ statusPort s ++ statusIntake s ++ statusPosition s
    ++ statusTables s ++ statusEvaluator s ++ statusMemory s ++ statusJournal s
    ++ be1 s.settings.volume ++ be1 s.annunciator.queue.length ++ boolByte s.supplyLow

/-- The ACTIVE bank's part of the DIRECTORY reply (spec 11.5). -/
def directoryActive (t : TableStore) : List Byte :=
  match t.active.bind Bank.header with
  | none => bankByte t.activeIndex ++ be4 t.activeGeneration ++ be1 0
  | some h =>
    bankByte t.activeIndex ++ be4 t.activeGeneration ++ be1 h.directory.length
      ++ h.directory.flatMap dirEntryBytes

/-- The load's part of the DIRECTORY reply (spec 11.5). -/
def directoryLoad (t : TableStore) : List Byte :=
  match t.load with
  | none => bankByte none ++ be4 0 ++ be1 0
  | some l =>
    bankByte (some l.target) ++ be4 l.manifest.generation ++ be1 l.directory.length
      ++ l.directory.flatMap dirEntryBytes

/-- The DIRECTORY reply (R161). -/
def directoryBytes (s : State) : List Byte := directoryActive s.tables ++ directoryLoad s.tables

/-- One history entry in ten bytes (spec 11.5). -/
def departureBytes (d : Departure) : List Byte :=
  be1 d.route ++ be1 d.index ++ be2 d.code ++ be1 d.auth ++ be1 d.zone ++ timeBytes d.time

/-- The HISTORY reply (R29, R161). -/
def historyBytes (s : State) : List Byte :=
  be1 s.position.history.length ++ boolByte s.position.wrapped ++ s.position.history.flatMap departureBytes

/-- A key's pending-consume entry: presence, tag and the milliseconds left in its window (R119); three bytes of 0 when there
is none (log entry 51). -/
def windowBytes (s : State) (k : Key) : List Byte :=
  presence 3 ((s.memory.pendingList.find? fun p => p.key == k).map fun p =>
    be1 p.tag ++ be2 (p.expiry - s.timeBase))

/-- A slot and its occupant's trip state, 0 when free (R119). -/
def slotBytes (slots : List (Nat × Sighting)) (i : Nat) : List Byte :=
  be2 i ++ be1 (tripWire ((lookupAt slots i).map Sighting.trip))

/-- The MEMORY reply (R119). -/
def memoryBytes (s : State) (k : Key) : List Byte :=
  match findSighting s.memory.slots k with
  | some (i, e) =>
    keyBytes k ++ be1 1 ++ be2 i ++ be1 (if i = primarySlot k then 1 else 2) ++ be2 e.product
      ++ timeBytes e.time ++ be1 e.coach ++ be1 e.lastClass.wire ++ be1 (tripWire (some e.trip))
      ++ windowBytes s k
  | none =>
    keyBytes k ++ be1 0 ++ slotBytes s.memory.slots (primarySlot k)
      ++ slotBytes s.memory.slots (alternateSlot k)

end Sys2Proof.Machine
end

