-- ==== Sys2Proof/Machine/Commands.lean ====
section
/-! DEFINITION. CONFIG, the four queries, RESTART, DRAIN_END and WARM_RESTART_EFFECT (R160 to R164). -/

namespace Sys2Proof.Machine

/-! ## CONFIG -/

/-- A value moved to the nearest end of its range. -/
def clampTo (lo hi n : Nat) : Nat := max lo (min n hi)

/-- R160: the watermark the resume watermark is compared with. -/
def newHold (c : Settings) (v : ConfigValues) : Nat := (v.hold.map (clampTo 4 13)).getD c.hold

/-- R160: the resume watermark after a frame: the carried one clamped below H, or the current one moved to follow
H. -/
def newResume (c : Settings) (v : ConfigValues) : Nat :=
  match v.resume with
  | some r => clampTo 1 (newHold c v - 1) r
  | none => min c.resume (newHold c v - 1)

/-- R160: the settings after a frame. -/
def applyConfig (c : Settings) (v : ConfigValues) : Settings :=
  { window := (v.window.map (clampTo 0 240)).getD c.window, policy := v.policy.getD c.policy,
    burst := (v.burst.map (clampTo 1 16)).getD c.burst, volume := (v.volume.map (clampTo 0 3)).getD c.volume,
    hold := newHold c v, resume := newResume c v }

/-- A carried value that was applied as carried, or none carried. -/
def asCarried (carried : Option Nat) (applied : Nat) : Bool :=
  match carried with
  | none => true
  | some n => n == applied

/-- R160: every value was applied as carried, and no resume watermark was moved. -/
def configExact (c : Settings) (v : ConfigValues) : Bool :=
  let a := applyConfig c v
  asCarried v.window a.window && asCarried v.burst a.burst && asCarried v.volume a.volume
    && asCarried v.hold a.hold && asCarried v.resume a.resume && (v.resume.isSome || a.resume == c.resume)

/-- R160: a CONFIG frame's payload. -/
def takeConfig (payload : List Byte) (s : State) : State :=
  match readConfig payload with
  | none => respond clsConfig (Reply.with .badArg (settingsBytes s.settings)) s
  | some v =>
    let c := applyConfig s.settings v
    flowStep
      (respond clsConfig (Reply.with (if configExact s.settings v then .ok else .okClamped) (settingsBytes c))
        (s.setSettings c))

/-- CONFIG (R160, R12). -/
def execConfig (s : State) : Host.Outcome State Fault Refusal := dispatch clsConfig true takeConfig s

/-! ## QUERY -/

/-- R161: a reply gathered at dispatch with the query's own entry in the response queue (log entry 37). -/
def answerQuery (content : State → List Byte) (s : State) : State :=
  let s := holdResponse clsQuery s
  produce clsQuery (Reply.with .ok (content s)) s

/-- R161: a query of one byte; any other length is not well formed. -/
def plainQuery (kind : Nat) (content : State → List Byte) (payload : List Byte) (s : State) : State :=
  if payload = be1 kind then answerQuery content s else respond clsQuery (Reply.bare .badArg) s

/-- QUERY_STATUS (R162); a kind that is none of the four is answered here (log entry 10). -/
def execQueryStatus (s : State) : Host.Outcome State Fault Refusal :=
  dispatchWhen clsQuery true (fun p => queryRow p == 1) (plainQuery 1 statusBytes) s

/-- QUERY_DIRECTORY (R161). -/
def execQueryDirectory (s : State) : Host.Outcome State Fault Refusal :=
  dispatchWhen clsQuery true (fun p => queryRow p == 2) (plainQuery 2 directoryBytes) s

/-- QUERY_HISTORY (R161). -/
def execQueryHistory (s : State) : Host.Outcome State Fault Refusal :=
  dispatchWhen clsQuery true (fun p => queryRow p == 3) (plainQuery 3 historyBytes) s

/-- R119, R161: a MEMORY query's payload. -/
def takeMemoryQuery (payload : List Byte) (s : State) : State :=
  match readMemoryQuery payload with
  | none => respond clsQuery (Reply.bare .badArg) s
  | some k => answerQuery (fun s => memoryBytes s k) s

/-- QUERY_MEMORY (R119). -/
def execQueryMemory (s : State) : Host.Outcome State Fault Refusal :=
  dispatchWhen clsQuery true (fun p => queryRow p == 4) takeMemoryQuery s

/-! ## RESTART -/

/-- R100: an entry still waiting for a place is discarded: the Evaluator leaves the waiting list. -/
def leaveWaiting (s : State) : State :=
  s.setJournal { s.journal with waiting := s.journal.waiting.filter fun p => p != .evaluator }

/-- R100: an evaluation in flight is dropped where it stands. -/
def dropEvaluation (s : State) : State :=
  if s.evaluator.isIdle then s else endEvaluation (leaveWaiting s)

/-- R17: RESTARTING joins the hold causes. -/
def setRestarting (s : State) : State :=
  s.setIntake { s.intake with causes := { s.intake.causes with restarting := true } }

/-- R17, R125, R163, R173: a RESTART frame's payload, which is empty. The CLEARED notices of an evaluation dropped with a
deferred clearing are placed here; the HOLD_STATE notice of RESTARTING follows with the flow frame (log entry 46). -/
def takeRestart (payload : List Byte) (s : State) : State :=
  if payload = [] then dropEvaluation (setRestarting (holdResponse clsRestart s))
  else respond clsRestart (Reply.bare .badArg) s

/-- RESTART (R163). -/
def execRestart (s : State) : Host.Outcome State Fault Refusal := dispatch clsRestart true takeRestart s

/-- The RESTART's own response is still pending. -/
def restartPending (p : TerminalPort) : Bool := p.responses.any fun r => r.cls == clsRestart && r.reply.isNone

/-- R163: what the end of the drain gives a response: RESTART its OK, every other pending one BAD_STATE RESTARTED. -/
def endedResponse (r : Response) : Response :=
  match r.reply with
  | some _ => r
  | none =>
    if r.cls = clsRestart then { r with reply := some (Reply.bare .ok) }
    else { r with reply := some { status := .badState, mark := .restarted, content := [] } }

/-- DRAIN_END (R163, R150). -/
def execDrainEnd (s : State) : Host.Outcome State Fault Refusal :=
  act (s.restarting && restartPending s.port && drained s)
    (fun s => s.setPort { s.port with responses := s.port.responses.map endedResponse }) s

/-- R24, R30, R33, R35: the Position Unit after a warm restart: the clock, its validity and the debt are kept. -/
def PositionUnit.restarted (p : PositionUnit) : PositionUnit :=
  { PositionUnit.initial with clock := p.clock, valid := p.valid, debt := p.debt }

/-- R164: the port after a warm restart. -/
def TerminalPort.restarted (p : TerminalPort) : TerminalPort := { TerminalPort.initial with rx := p.rx }

/-- R164: every block takes the values its chapter gives for a warm restart taking effect (R17, R57, R126, R144,
R171). The internal time base and its tick run on (R20), and tap results still waiting are kept (R11). -/
def warmRestart (s : State) : State :=
  { s with
    settings := Settings.defaults,
    intake := { queue := [], tagCounter := 0, causes := HoldCauses.atStart s.supplyLow },
    position := s.position.restarted, tables := s.tables.atStart, evaluator := .idle,
    memory := InspectionMemory.initial, journal := s.journal.atStart true, port := s.port.restarted,
    annunciator := Annunciator.initial }

/-- WARM_RESTART_EFFECT (R164). -/
def execWarmRestartEffect (s : State) : Host.Outcome State Fault Refusal := act (restartReady s) warmRestart s

end Sys2Proof.Machine
end

