-- ==== Sys2Proof/Machine/Coverage.lean ====
section
/-! DEFINITION. Coverage of a stop by a product (R52, R53, R54). -/

namespace Sys2Proof.Machine

/-- The five fields by which a stop is described in a coverage question (03 section 3.10). -/
structure StopFields where
  route : Nat
  index : Nat
  code : Nat
  auth : Nat
  zone : Nat
  deriving DecidableEq, Repr

/-- The fields of a stop record. -/
def StopRec.fields (s : StopRec) : StopFields :=
  { route := s.route, index := s.index, code := s.code, auth := s.auth, zone := s.zone }

/-- The fields of a history entry, as copied at its departure (R29). -/
def Departure.fields (d : Departure) : StopFields :=
  { route := d.route, index := d.index, code := d.code, auth := d.auth, zone := d.zone }

/-- The honored test (R52). -/
def honoredTest (prod : ProductRec) (issuer : Nat) (s : StopFields) : Bool :=
  s.auth == issuer || honors prod s.auth

/-- Between two indices, both included, in either order (R53). -/
def betweenIndices (i j n : Nat) : Bool := decide (min i j ≤ n) && decide (n ≤ max i j)

/-- The zone branch of ORIGIN_DEST (R53). -/
def zoneBranch (b : Bank) (issuer origin destination : Nat) (s : StopFields) : Bool :=
  match stopByCode b origin, stopByCode b destination with
  | some o, some d =>
    if o.auth = issuer ∧ d.auth = issuer ∧ s.auth = issuer then
      match distance b issuer o.zone s.zone, distance b issuer s.zone d.zone, distance b issuer o.zone d.zone with
      | some x, some y, some z => x + y == z
      | _, _, _ => false
    else false
  | _, _ => false

/-- ORIGIN_DEST for a stop that passed the honored test (R53): the route branch when the stop's route is
present and holds both codes, the zone branch otherwise. -/
def originDestCovers (b : Bank) (p : Presentation) (s : StopFields) : Bool :=
  match p.origin, p.destination with
  | some origin, some destination =>
    if routePresent b s.route then
      match stopOnRoute b s.route origin, stopOnRoute b s.route destination with
      | some o, some d => betweenIndices o.index d.index s.index
      | _, _ => zoneBranch b p.key.auth origin destination s
    else zoneBranch b p.key.auth origin destination s
  | _, _ => false

/-- Whether a product covers a stop for a presentation (R52 to R54). -/
def covers (b : Bank) (prod : ProductRec) (p : Presentation) (s : StopFields) : Bool :=
  honoredTest prod p.key.auth s
    && match prod.mode with
       | .originDest => originDestCovers b p s
       | .zoneList => p.zones.contains (s.auth, s.zone)
       | .allZones => true

end Sys2Proof.Machine
end

