-- ==== Sys2Proof/Machine/Fare.lean ====
section
/-! DEFINITION. The charged-zone walk and the fare arithmetic (chapter 06). -/

namespace Sys2Proof.Machine

/-- The FIRST_CLASS bit of the demand word (R46). -/
def firstClassBit : Nat := 0

/-- The fare class is FIRST when the demand word has FIRST_CLASS set (R102). -/
def fareFirst (demand : Bits16) : Bool := demand.getLsbD firstClassBit

/-- The rate of a run by its fare class (R102). -/
def rateFor (t : RatesRec) (first : Bool) : Nat := if first then t.first else t.second

/-- The factor of a run by the passenger category (R102). -/
def factorFor (t : RatesRec) : Category → Nat
  | .adult => t.adult
  | .reduced => t.reduced
  | .child => t.child
  | .senior => t.senior

/-- Quotient rounded up (R107 step 2). -/
def ceilDiv (n d : Nat) : Nat := (n + (d - 1)) / d

/-- Rounded up to the next multiple of a unit; a multiple stays (R107 step 5). -/
def roundUp (n u : Nat) : Nat := ceilDiv n u * u

/-- R107 step 1. -/
def runV1 (rate n : Nat) : Nat := rate * n

/-- R107 step 2. -/
def runV2 (rate n factor : Nat) : Nat := ceilDiv (runV1 rate n * factor) 100

/-- R107 step 3, which may be below zero. -/
def runV3 (rate n factor p : Nat) (k : Int) : Int := (runV2 rate n factor : Int) * p + k * p

/-- R107 steps 4 to 6: the floor at zero, the rounding up to the unit, and the cap. -/
def runAmount (t : RatesRec) (first : Bool) (cat : Category) (p n : Nat) : Nat :=
  min (roundUp (runV3 (rateFor t first) n (factorFor t cat) p t.correction).toNat t.unit) t.cap

/-- A run of stops (R105): its authority and the zones of its first and last stop. -/
structure Run where
  auth : Nat
  firstZone : Nat
  lastZone : Nat
  deriving DecidableEq, Repr

/-- R105: the stops of a walk cut into maximal runs of one authority. -/
def cutRuns : List StopRec → List Run
  | [] => []
  | s :: rest =>
    match cutRuns rest with
    | [] => [{ auth := s.auth, firstZone := s.zone, lastZone := s.zone }]
    | r :: rs =>
      if r.auth = s.auth then { r with firstZone := s.zone } :: rs
      else { auth := s.auth, firstZone := s.zone, lastZone := s.zone } :: r :: rs

/-- Walk kind (R101). -/
inductive WalkKind where
  | supplement
  | penalty
  deriving DecidableEq, Repr

/-- R106: the zones a run is charged. Only the first run of a supplement walk enters no zone. -/
def chargedZones (kind : WalkKind) (isFirst : Bool) (d : Nat) : Nat :=
  if kind = .supplement ∧ isFirst then d else 1 + d

/-- What a walk needs beside its stops (R101). -/
structure FareInput where
  kind : WalkKind
  first : Bool
  category : Category
  count : Nat
  deriving DecidableEq, Repr

/-- R106, R107: one run priced from its own authority's matrix and rates. Every lookup of a walk answers
(R101). -/
def priceRun (b : Bank) (f : FareInput) (isFirst : Bool) (r : Run) : RunItem :=
  let n := chargedZones f.kind isFirst ((distance b r.auth r.firstZone r.lastZone).getD 0)
  { auth := r.auth, zones := n,
    amount := match ratesLookup b r.auth with
      | none => 0
      | some t => runAmount t f.first f.category f.count n }

/-- R110: one item for each run, in walk order. -/
def priceRuns (b : Bank) (f : FareInput) : List Run → List RunItem
  | [] => []
  | r :: rest => priceRun b f true r :: rest.map (priceRun b f false)

/-- The stops of a route from index `a` to index `t` (R101). -/
def walkStops (b : Bank) (route a t : Nat) : List StopRec :=
  (List.range (t + 1 - a)).filterMap fun i => stopAt b route (a + i)

/-- The greatest amount (00 Conventions). -/
def maxAmount : Nat := 65535

/-- What the fare arithmetic returns (R101). -/
structure FareResult where
  amount : Nat
  runs : List RunItem
  saturated : Bool
  deriving DecidableEq, Repr

/-- R109: the total clamped to 65535, with SATURATED when it was above. -/
def clampTotal (total : Nat) (runs : List RunItem) : FareResult :=
  { amount := min total maxAmount, runs := runs, saturated := decide (maxAmount < total) }

/-- R109: the P of the target stop's authority. -/
def penaltyOf (b : Bank) (route t : Nat) : Nat :=
  match stopAt b route t with
  | none => 0
  | some s => ((ratesLookup b s.auth).map RatesRec.penalty).getD 0

/-- The walk from `a` to `t` (R105 to R110). -/
def walk (b : Bank) (f : FareInput) (route a t : Nat) : FareResult :=
  let runs := priceRuns b f (cutRuns (walkStops b route a t))
  let total := (runs.map RunItem.amount).sum
  match f.kind with
  | .supplement => clampTotal total runs
  | .penalty => clampTotal (penaltyOf b route t + total) runs

/-- R104: the penalty start stop, from the oldest history entry on the route, else k, clipped to t. -/
def penaltyStart (history : List Departure) (route k t : Nat) : Nat :=
  match history.find? fun d => d.route == route with
  | some d => min d.index t
  | none => min k t

end Sys2Proof.Machine
end

