-- ==== Sys2Proof/Machine/Checks.lean ====
section
/-! DEFINITION. The check stages of an evaluation and its verdict record (R79 to R94). -/

namespace Sys2Proof.Machine

/-- The effective position (R79), when it is known: route, departed or current stop k, target t. -/
structure EffPos where
  route : Nat
  k : Nat
  target : Nat
  pos : PosState
  deriving DecidableEq, Repr

/-- The target index: k for AT_STOP(k), k+1 for BETWEEN(k, k+1) (R79). -/
def targetOf : PosState → Nat
  | .unknown => 0
  | .atStop k => k
  | .between k => k + 1

/-- R79: the effective position, none when it is UNKNOWN. -/
def effectivePosition (b : Option Bank) (s : Snapshot) : Option EffPos :=
  match b, s.route, s.length with
  | some bank, some route, some len =>
    if s.pos ≠ .unknown ∧ routePresent bank route = true ∧ routeLength bank route = len
        ∧ 1 ≤ targetOf s.pos ∧ targetOf s.pos ≤ len then
      some { route := route, k := s.pos.k, target := targetOf s.pos, pos := s.pos }
    else none
  | _, _, _ => none

/-- Stages 1 to 6 (R81 to R83): the class and reason they decide, or the bank and product later stages use. -/
def stages1to6 (b : Option Bank) (p : Presentation) : Except (VClass × Reason) (Bank × ProductRec) :=
  match b with
  | none => .error (.refer, .noTables)
  | some bank =>
    if !issuerDeclared bank p.key.auth then .error (.refer, .unknownIssuer)
    else if revoked bank p.key then .error (.reject, .revoked)
    else if !p.attested then .error (.refer, .unverified)
    else
      match productLookup bank p.key.auth p.product with
      | none => .error (.refer, .unknownProduct)
      | some prod =>
        if prod.maxPassengers < p.count then .error (.refer, .passengerCount) else .ok (bank, prod)

/-- What stage 8 finds (R85, R86). -/
inductive TimeFinding where
  | within
  | grace (reason : Reason) (detail : Detail)
  | decided (cls : VClass) (reason : Reason) (historyShort : Bool)
  deriving DecidableEq, Repr

/-- R86 (a): the newest covered departure at or before the validity end. -/
def begunDeparture (b : Bank) (prod : ProductRec) (p : Presentation) (history : List Departure) :
    Option Departure :=
  (history.filter fun d => d.time.atOrBefore p.validEnd && covers b prod p d.fields).getLast?

/-- R86 (c): the history has wrapped and its oldest entry departed at or after the validity end. -/
def historyTooShort (p : Presentation) (s : Snapshot) : Bool :=
  s.wrapped && match s.history.head? with
    | none => false
    | some d => p.validEnd.atOrBefore d.time

/-- The expiry rule (R86), cases (a) to (d) in order. -/
def expiryRule (b : Bank) (prod : ProductRec) (p : Presentation) (s : Snapshot) : TimeFinding :=
  match begunDeparture b prod p s.history with
  | some d => .grace .begunBeforeExpiry (.begun d.code d.time)
  | none =>
    if s.now.atOrBefore (graceLimit p.validEnd prod.grace) then .grace .gracePeriod .absent
    else if historyTooShort p s then .decided .refer .expiredUncertain true
    else .decided .reject .expired false

/-- Stage 8 (R85). -/
def stage8 (b : Bank) (prod : ProductRec) (p : Presentation) (s : Snapshot) : TimeFinding :=
  if s.now.before p.validStart then .decided .reject .notYetValid false
  else if s.now.atOrBefore p.validEnd then .within
  else expiryRule b prod p s

/-- E of stage 10: the product's entitlement bits joined with the upgrade bits (R88). -/
def entitlementOf (prod : ProductRec) (p : Presentation) : Bits16 :=
  prod.entitlement ||| p.upgrades.getD 0

/-- The missing bits of stage 10: set in the demand word and clear in E (R88). -/
def missingBits (demand : Bits16) (prod : ProductRec) (p : Presentation) : Bits16 :=
  demand &&& ~~~(entitlementOf prod p)

/-- Stage 11 (R89): a refusal, or whether a trip is to be consumed. -/
def stage11 (prod : ProductRec) (p : Presentation) (pr : Probe) (pendingCount : Nat) (slotGiven : Bool) :
    Except (VClass × Reason) Bool :=
  if prod.kind ≠ .carnet then .ok false
  else if pr = .found .taken ∨ pr = .found .pending then .ok false
  else if p.trips.getD 0 = 0 then .error (.reject, .noTrips)
  else if 4 ≤ pendingCount then .error (.refer, .consumeBusy)
  else if pr = .notFound ∧ slotGiven = false then .error (.refer, .memoryFull)
  else .ok true

/-- The highest index from 1 to `n` for which `f` holds (R90). -/
def lastIndex (f : Nat → Bool) : Nat → Option Nat
  | 0 => none
  | n + 1 => if f (n + 1) then some (n + 1) else lastIndex f n

/-- R90: whether the stop of an index on the current route is covered. -/
def indexCovered (b : Bank) (prod : ProductRec) (p : Presentation) (route i : Nat) : Bool :=
  match stopAt b route i with
  | none => false
  | some s => covers b prod p s.fields

/-- What the stages up to 12 decide: class, reason, detail, consume, the flags PENDING_CONSUME and
HISTORY_SHORT, the start of a supplement walk, and whether stage 7 was passed. -/
structure Ruling where
  cls : VClass
  reason : Reason
  detail : Detail
  consume : Bool
  pendingConsume : Bool
  historyShort : Bool
  start : Option Nat
  grace : Option (Reason × Detail)
  recheck : Bool
  probed : Bool
  deriving DecidableEq, Repr

/-- A ruling with a class and reason and nothing else. -/
def Ruling.plain (cls : VClass) (reason : Reason) : Ruling :=
  { cls := cls, reason := reason, detail := .absent, consume := false, pendingConsume := false,
    historyShort := false, start := none, grace := none, recheck := false, probed := false }

/-- Stage 12 (R90), with the consume and PENDING_CONSUME that stage 11 left; NO_COVER takes the consume away
(R89). -/
def stage12 (b : Bank) (prod : ProductRec) (p : Presentation) (e : EffPos) (recheck consume pendingFlag : Bool) :
    Ruling :=
  match lastIndex (indexCovered b prod p e.route) e.target with
  | none => { Ruling.plain .reject .noCover with pendingConsume := pendingFlag }
  | some s =>
    if s = e.target then
      { Ruling.plain .accept (if recheck then .recheck else .valid) with
        consume := consume, pendingConsume := pendingFlag }
    else
      { Ruling.plain .supplementDue .extension with
        consume := consume, pendingConsume := pendingFlag, start := some s }

/-- PENDING_CONSUME: a carnet found with trip state PENDING (R89). -/
def pendingFlagOf (prod : ProductRec) (pr : Probe) : Bool := prod.kind == .carnet && pr == .found .pending

/-- Stages 9 to 12 (R87 to R90). -/
def stages9to12 (b : Bank) (prod : ProductRec) (p : Presentation) (s : Snapshot) (pr : Probe)
    (pendingCount : Nat) (slotGiven : Bool) : Ruling :=
  match effectivePosition (some b) s with
  | none => Ruling.plain .refer .noPosition
  | some e =>
    if missingBits s.demand prod p ≠ 0 then
      { Ruling.plain .refer .entitlement with detail := .missing (missingBits s.demand prod p) }
    else
      match stage11 prod p pr pendingCount slotGiven with
      | .error (cls, reason) => Ruling.plain cls reason
      | .ok consume => stage12 b prod p e (pr != .notFound) consume (pendingFlagOf prod pr)

/-- Stages 8 to 12 (R85 to R90), with the grace that stage 8 concluded. -/
def stages8to12 (b : Bank) (prod : ProductRec) (p : Presentation) (s : Snapshot) (pr : Probe)
    (pendingCount : Nat) (slotGiven : Bool) : Ruling :=
  match stage8 b prod p s with
  | .decided cls reason short => { Ruling.plain cls reason with historyShort := short }
  | .within => stages9to12 b prod p s pr pendingCount slotGiven
  | .grace reason detail =>
    { stages9to12 b prod p s pr pendingCount slotGiven with grace := some (reason, detail) }

/-- What an evaluation reads of the memory at check completion (R78): the slots, the number of pending-consume
entries, and the duplicate window. -/
structure MemoryView where
  slots : List (Nat × Sighting)
  pendingCount : Nat
  window : Nat
  deriving DecidableEq, Repr

/-- Stages 1 to 12 (R80). -/
def stages1to12 (b : Option Bank) (p : Presentation) (s : Snapshot) (m : MemoryView) : Ruling :=
  match stages1to6 b p with
  | .error (cls, reason) => Ruling.plain cls reason
  | .ok (bank, prod) =>
    match probe m.slots p.key m.window s.coach s.now with
    | .duplicate => Ruling.plain .refer .duplicate
    | .notFound =>
      { stages8to12 bank prod p s .notFound m.pendingCount (insertionSlot m.slots p.key).isSome with
        probed := true }
    | .found t =>
      { stages8to12 bank prod p s (.found t) m.pendingCount (insertionSlot m.slots p.key).isSome with
        probed := true, recheck := true }

/-- Stage 13, the grace merge (R92): ACCEPT becomes ACCEPT_GRACE with the grace reason and its detail. -/
def graceMerge (r : Ruling) : Ruling :=
  match r.grace with
  | none => r
  | some (reason, detail) =>
    if r.cls = .accept then { r with cls := .acceptGrace, reason := reason, detail := detail } else r

/-- The walk that a class and an effective position call for (R91), with the HISTORY_SHORT it sets (R104). -/
def fareOf (b : Option Bank) (p : Presentation) (s : Snapshot) (r : Ruling) : FareResult × Bool :=
  match b, effectivePosition b s with
  | some bank, some e =>
    match r.cls, r.start with
    | .supplementDue, some a =>
      (walk bank { kind := .supplement, first := fareFirst s.demand, category := p.category, count := p.count }
        e.route a e.target, false)
    | .reject, _ =>
      (walk bank { kind := .penalty, first := fareFirst s.demand, category := p.category, count := p.count }
        e.route (penaltyStart s.history e.route e.k e.target) e.target, s.wrapped)
    | _, _ => ({ amount := 0, runs := [], saturated := false }, false)
  | _, _ => ({ amount := 0, runs := [], saturated := false }, false)

/-- Stage 14 (R93): the slots after the update, and whether UNREMEMBERED is set. -/
def stage14 (p : Presentation) (s : Snapshot) (m : MemoryView) (r : Ruling) : List (Nat × Sighting) × Bool :=
  if r.probed then
    let u : SightingUpdate := { key := p.key, product := p.product, coach := s.coach, now := s.now, cls := r.cls }
    let res := remember m.slots m.window u
    (res.1, !res.2)
  else (m.slots, false)

/-- Consume stands only in ACCEPT, ACCEPT_GRACE and SUPPLEMENT_DUE verdicts (R89, R94). -/
def consumeStands : VClass → Bool
  | .accept | .acceptGrace | .supplementDue => true
  | .refer | .reject => false

/-- The verdict record of an evaluation, without its journal sequence (R94). -/
def verdictRecord (b : Option Bank) (c : EvalContext) (r : Ruling) (unremembered : Bool) : Verdict :=
  let fare := fareOf b c.pres c.snap r
  let e := effectivePosition b c.snap
  { tag := c.pres.tag, cls := r.cls, reason := r.reason, detail := r.detail,
    flags :=
      { recheck := r.recheck, grace := r.grace.isSome, unremembered := unremembered, unjournaled := false,
        saturated := fare.1.saturated, historyShort := r.historyShort || fare.2,
        countClamped := c.pres.clamped, pendingConsume := r.pendingConsume, noPosition := e.isNone },
    amount := fare.1.amount, consume := r.consume && consumeStands r.cls, runs := fare.1.runs,
    generation := c.generation, seq := none, coach := c.snap.coach, route := e.map EffPos.route,
    stopIndex := e.map EffPos.target, pos := (e.map EffPos.pos).getD .unknown }

/-- Check completion (R80): the verdict record and the memory's slots after stage 14. -/
def workChecks (b : Option Bank) (c : EvalContext) (m : MemoryView) : Verdict × List (Nat × Sighting) :=
  let r := graceMerge (stages1to12 b c.pres c.snap m)
  let mem := stage14 c.pres c.snap m r
  (verdictRecord b c r mem.2, mem.1)

end Sys2Proof.Machine
end

