-- ==== Sys2Proof/Machine/Patterns.lean ====
section
/-! DEFINITION. The patterns of the Annunciator: urgency, resolution, voices, the pattern queue, and the speaker
line (chapter 10). -/

namespace Sys2Proof.Machine

/-- R165: the urgency of a class. -/
def urgencyOf : VClass → Nat
  | .reject => 3
  | .refer => 2
  | .supplementDue => 2
  | .accept => 1
  | .acceptGrace => 1

/-- A note written as voice, pitch step and duration. -/
def mkNote (voice pitch duration : Nat) : Note := { voice := voice, pitch := pitch, duration := duration }

/-- R166: the built-in pattern of a class, one record. -/
def builtIn : VClass → List Note
  | .accept => [mkNote 1 49 8]
  | .acceptGrace => [mkNote 1 49 8, mkNote 1 0 4, mkNote 1 49 8]
  | .supplementDue => [mkNote 1 44 15, mkNote 1 49 15, mkNote 2 37 30]
  | .refer => [mkNote 1 41 20, mkNote 1 0 10, mkNote 1 41 20, mkNote 1 0 10, mkNote 1 41 20]
  | .reject => [mkNote 1 13 40, mkNote 1 0 10, mkNote 1 13 40, mkNote 2 17 90, mkNote 3 20 90]

/-- R166: the records a request for a class takes, from the ACTIVE bank or built in. -/
def patternRecords (active : Option Bank) (cls : VClass) : List (List Note) :=
  ((active.bind fun b => patternLookup b cls)).getD [builtIn cls]

/-- R165, R166: the pattern entry of a request. -/
def patternFor (active : Option Bank) (cls : VClass) : Pattern :=
  { cls := cls, urgency := urgencyOf cls, records := patternRecords active cls }

/-- The length of a note in milliseconds: its duration in units of 10 ms (R50). -/
def Note.ms (n : Note) : Nat := 10 * n.duration

/-- The notes of one voice in a record, in list order (R167). -/
def voiceNotes (v : Nat) (r : List Note) : List Note := r.filter fun n => n.voice == v

/-- How long a voice plays in a record (R167). -/
def voiceMs (v : Nat) (r : List Note) : Nat := ((voiceNotes v r).map Note.ms).sum

/-- R167: a record lasts as long as its longest voice. -/
def recordMs (r : List Note) : Nat := max (voiceMs 1 r) (max (voiceMs 2 r) (voiceMs 3 r))

/-- How long a pattern lasts (R167). -/
def patternMs (records : List (List Note)) : Nat := (records.map recordMs).sum

/-- A silent voice. -/
def Voice.silent : Voice := { current := none, endsAt := 0, rest := [] }

/-- A voice given notes that begin at a moment (R167). -/
def startVoice (at_ : Nat) : List Note → Voice
  | [] => Voice.silent
  | n :: rest => { current := some n, endsAt := at_ + n.ms, rest := rest }

/-- A voice whose note has ended goes on to its next note, or falls silent (R167). -/
def Voice.advance (v : Voice) : Voice := startVoice v.endsAt v.rest

/-- The three voices at the start of a record (R167). -/
def Playing.startRecord (p : Playing) (at_ : Nat) (r : List Note) (later : List (List Note)) : Playing :=
  { p with voice1 := startVoice at_ (voiceNotes 1 r), voice2 := startVoice at_ (voiceNotes 2 r),
           voice3 := startVoice at_ (voiceNotes 3 r), records := later }

/-- A pattern starts playing from its first record (R167, R168). -/
def startPattern (at_ : Nat) (p : Pattern) : Playing :=
  let idle : Playing :=
    { pattern := p, voice1 := Voice.silent, voice2 := Voice.silent, voice3 := Voice.silent, records := [],
      finish := at_ + patternMs p.records }
  match p.records with
  | [] => idle
  | r :: later => idle.startRecord at_ r later

/-- Most waiting patterns (R168). -/
def patternLimit : Nat := 4

/-- R168, last three cases: a taken entry placed behind a playing pattern. -/
def queuePattern (p : Pattern) (q : List Pattern) : List Pattern :=
  if q.length < patternLimit then q ++ [p]
  else if q.any fun w => decide (w.urgency < p.urgency) then
    q.eraseP (fun w => decide (w.urgency < p.urgency)) ++ [p]
  else q

/-- R168: a taken entry starts, preempts, waits or is dropped. -/
def Annunciator.take (a : Annunciator) (now : Nat) (p : Pattern) : Annunciator :=
  match a.playing with
  | none => { a with playing := some (startPattern now p) }
  | some cur =>
    if cur.pattern.urgency < p.urgency then { a with playing := some (startPattern now p) }
    else { a with queue := queuePattern p a.queue }

/-- The oldest waiting entry of the greatest urgency (R169). -/
def mostUrgent : List Pattern → Option Pattern
  | [] => none
  | p :: rest =>
    match mostUrgent rest with
    | none => some p
    | some q => if p.urgency < q.urgency then some q else some p

/-- R169: at a completion the most urgent, oldest waiting entry leaves the queue and plays. -/
def Annunciator.complete (a : Annunciator) (now : Nat) : Annunciator :=
  match mostUrgent a.queue with
  | none => { a with playing := none }
  | some p =>
    { playing := some (startPattern now p), queue := a.queue.eraseP fun w => decide (w.urgency = p.urgency) }

/-- The moments at which the sounding notes and rests end, by voice. -/
def Playing.endings (p : Playing) : List (Nat × Nat) :=
  (if p.voice1.current.isSome then [(1, p.voice1.endsAt)] else [])
    ++ (if p.voice2.current.isSome then [(2, p.voice2.endsAt)] else [])
    ++ (if p.voice3.current.isSome then [(3, p.voice3.endsAt)] else [])

/-- The first of some moments, the earlier in the list on a tie. -/
def earliest : List (Nat × Nat) → Option (Nat × Nat)
  | [] => none
  | x :: rest =>
    match earliest rest with
    | none => some x
    | some y => if y.2 < x.2 then some y else some x

/-- The voice whose note ends next, and when. -/
def Playing.nextEnding (p : Playing) : Option (Nat × Nat) := earliest p.endings

/-- One voice of a playing pattern moved on. -/
def Playing.advanceVoice (p : Playing) (v : Nat) : Playing :=
  if v = 1 then { p with voice1 := p.voice1.advance }
  else if v = 2 then { p with voice2 := p.voice2.advance }
  else { p with voice3 := p.voice3.advance }

/-- R167: a note ends; when that ends the record, the next record starts at that moment. -/
def Playing.noteEnd (p : Playing) (v at_ : Nat) : Playing :=
  let q := p.advanceVoice v
  match q.endings, q.records with
  | [], r :: later => q.startRecord at_ r later
  | _, _ => q

/-- The pitch steps that sound on the speaker line: a rest sounds nothing (R167). -/
def Playing.sounding (p : Playing) : List Nat :=
  ([p.voice1, p.voice2, p.voice3].filterMap fun v => v.current.map Note.pitch).filter fun s => decide (0 < s)

/-- The speaker line: the pitch steps whose tones are summed, and the volume; nothing sounds at volume 0 (R167,
R170). -/
def speakerLine (s : State) : List Nat × Nat :=
  (if s.settings.volume = 0 then [] else (s.annunciator.playing.map Playing.sounding).getD [], s.settings.volume)

/-- R167: the twelfth power of a pitch step's nominal frequency in hertz: step 1 is 110 Hz, and each step is one
twelfth of an octave above the step below it. -/
def nominalHertz12 (step : Nat) : Nat := 110 ^ 12 * 2 ^ (step - 1)

end Sys2Proof.Machine
end

