-- ==== Sys2Proof/Machine/Evaluating.lean ====
section
/-! DEFINITION. EVALUATION_BEGIN, CHECK_COMPLETION and VERDICT_ISSUE (R76 to R97). -/

namespace Sys2Proof.Machine

/-- R32: the position snapshot. -/
def snapshotOf (p : PositionUnit) : Snapshot :=
  { pos := p.pos, route := p.route, length := p.length, coach := p.coach, demand := p.demand, now := p.clock,
    valid := p.valid, run := p.run, history := p.history, wrapped := p.wrapped }

/-- R77: an evaluation may begin. -/
def evaluationMayBegin (s : State) : Bool :=
  s.evaluator.isIdle && !s.intake.queue.isEmpty && !s.safe && !s.intake.causes.shutdown && !s.restarting
    && s.journal.mode != .recovering

/-- R78: what the evaluation of a presentation holds. -/
def contextOf (p : Presentation) (s : State) : EvalContext :=
  { pres := p, bank := s.tables.activeIndex, generation := s.tables.activeGeneration,
    snap := snapshotOf s.position }

/-- R7, R58, R78: the head presentation leaves the queue, the ACTIVE bank is pinned, the snapshot taken. -/
def beginEvaluation (s : State) : State :=
  match s.intake.queue with
  | [] => s
  | p :: rest =>
    setQueue rest
      ((s.setEvaluator (.evaluating (contextOf p s))).setTables
        (s.tables.onBank Bank.pin s.tables.activeIndex))

/-- EVALUATION_BEGIN (R78). -/
def execEvaluationBegin (s : State) : Host.Outcome State Fault Refusal :=
  act (evaluationMayBegin s) beginEvaluation s

/-- The evaluation whose checks are being worked (R76). -/
def Evaluator.working : Evaluator → Option EvalContext
  | .evaluating c => some c
  | .idle => none
  | .awaiting .. => none

/-- R78: what the checks read of the memory. -/
def memoryView (s : State) : MemoryView :=
  { slots := s.memory.slots, pendingCount := s.memory.pendingList.length, window := s.settings.window }

/-- R78, R80: the checks worked at once, from the pinned bank, the snapshot and the memory. -/
def checkWork (c : EvalContext) (s : State) : Verdict × List (Nat × Sighting) :=
  workChecks (c.bank.map s.tables.bank) c (memoryView s)

/-- R80, R95: the checks are complete: the memory is updated and the VERDICT entry offered. -/
def completeChecks (s : State) : State :=
  match s.evaluator.working with
  | none => s
  | some c =>
    let work := checkWork c s
    offer .evaluator
      ((s.setMemory { s.memory with slots := work.2 }).setEvaluator (.awaiting c work.1 .place))

/-- CHECK_COMPLETION (R80). -/
def execCheckCompletion (s : State) : Host.Outcome State Fault Refusal :=
  act s.evaluator.working.isSome completeChecks s

/-- R95, R139: the condition of the journal policy. -/
def issuable (policy : Policy) : JournalWait → Bool
  | .place => false
  | .queued _ => policy == .early
  | .completed _ => true
  | .dropped => true

/-- The verdict that may be issued now (R95). -/
def verdictToIssue (s : State) : Option (EvalContext × Verdict) :=
  match s.evaluator with
  | .awaiting c v w => if issuable s.settings.policy w then some (c, v) else none
  | .idle => none
  | .evaluating _ => none

/-- R96: the VERDICT frame handed to the port. -/
def handVerdict (v : Verdict) (s : State) : State :=
  s.setPort { s.port with verdicts := s.port.verdicts ++ [v] }

/-- R96: the TAP_RESULT of a reader presentation. -/
def handTap (c : EvalContext) (v : Verdict) (s : State) : State :=
  match c.pres.source with
  | .reader => addTap (.verdict v.tag v.cls v.reason v.amount v.consume) s
  | .keyed => s

/-- R96, R165, R168: the pattern request. -/
def requestPattern (cls : VClass) (s : State) : State :=
  s.setAnnunciator (s.annunciator.take s.timeBase (patternFor s.tables.active cls))

/-- The consume window in milliseconds (R120). -/
def consumeWindowMs : Nat := 3000

/-- R96, R120: consume YES makes the trip PENDING and appends a pending-consume entry. -/
def pendConsume (c : EvalContext) (v : Verdict) (s : State) : State :=
  if v.consume then
    s.setMemory
      { s.memory with
        slots := setTrip s.memory.slots c.pres.key .pending,
        pendingList := s.memory.pendingList
          ++ [{ tag := v.tag, key := c.pres.key, expiry := s.timeBase + consumeWindowMs }] }
  else s

/-- R96, R97: the verdict is issued and the evaluation ends. -/
def issueVerdict (s : State) : State :=
  match verdictToIssue s with
  | none => s
  | some (c, v) => endEvaluation (pendConsume c v (requestPattern v.cls (handTap c v (handVerdict v s))))

/-- VERDICT_ISSUE (R96). -/
def execVerdictIssue (s : State) : Host.Outcome State Fault Refusal :=
  act (verdictToIssue s).isSome issueVerdict s

end Sys2Proof.Machine
end

