-- ==== Sys2Proof/Machine/Intake.lean ====
section
/-! DEFINITION. PRESENT and INTAKE_FLUSH (R2, R9, R13). -/

namespace Sys2Proof.Machine

/-- R2, R3, R9: a keyed presentation is admitted, refused BUSY, or refused BAD_ARG. -/
def takeKeyed (payload : List Byte) (s : State) : State :=
  match readPresentation payload with
  | none => respond clsPresent (Reply.bare .badArg) s
  | some p =>
    if s.intake.queue.length < queueLimit ∧ s.intakeClosed = false then
      enrol .keyed p (respond clsPresent (Reply.with .ok (be1 (nextTag s))) s)
    else respond clsPresent (Reply.bare .busy) s

/-- PRESENT (R2). -/
def execPresent (s : State) : Host.Outcome State Fault Refusal := dispatch clsPresent true takeKeyed s

/-- R13: the queue is flushed and the number discarded returned. -/
def flushQueue (payload : List Byte) (s : State) : State :=
  if payload = [] then
    emptyQueue .flush (respond clsIntakeFlush (Reply.with .ok (be1 s.intake.queue.length)) s)
  else respond clsIntakeFlush (Reply.with .badArg (be1 0)) s

/-- INTAKE_FLUSH (R13). -/
def execIntakeFlush (s : State) : Host.Outcome State Fault Refusal := dispatch clsIntakeFlush true flushQueue s

end Sys2Proof.Machine
end

