-- ==== Sys2Proof/Machine/Journaling.lean ====
section
/-! DEFINITION. The Journal at work: programs, erases, the head, export, NOTE and shutdown (R129 to R143, R147,
R148). -/

namespace Sys2Proof.Machine

/-! ## Places and programs -/

/-- R132: a place is free and a producer waits for it. -/
def placeForWaiting (s : State) : Bool :=
  !s.journal.waiting.isEmpty && decide (s.journal.queue.length < writeQueueLimit)
    && s.journal.mode != .recovering && !dropping s

/-- R132: the producer at the head of the waiting list leaves it, and its entry is queued. -/
def queueWaiting (s : State) : State :=
  match s.journal.waiting with
  | [] => s
  | p :: rest => enqueue p (s.setJournal { s.journal with waiting := rest })

/-- WAITING_ENTRY_QUEUED (R132). -/
def execWaitingEntryQueued (s : State) : Host.Outcome State Fault Refusal :=
  act (placeForWaiting s) queueWaiting s

/-- R136: the journal flash is free and the Journal works. -/
def flashFree (s : State) : Bool := s.journal.op.isNone && s.journal.mode != .recovering

/-- R136, second step: the head entry is programmed: no erase is due, and it fits. -/
def programDue (s : State) : Bool :=
  flashFree s && !eraseDue s && !s.journal.queue.isEmpty && !headBlocked s.journal

/-- ENTRY_PROGRAM_START (R133, R136). -/
def execEntryProgramStart (s : State) : Host.Outcome State Fault Refusal :=
  act (programDue s) (fun s => s.setJournal { s.journal with op := some .program }) s

/-- R129, R133: an entry's slots complete from a slot upward. -/
def putParts (base : Nat) (e : Entry) : Nat → List (Nat × JSlot) → List (Nat × JSlot)
  | 0, slots => slots
  | n + 1, slots => putAt (putParts base e n slots) (base + n) (.part e n)

/-- R133: the head entry's slots become complete, the head moves past them, the entry leaves the queue. -/
def Journal.programmed (j : Journal) (e : Entry) (rest : List Entry) : Journal :=
  { j with slots := putParts (j.headSector * slotsPerSector + j.headSlot) e (entrySlots e.body) j.slots,
           headSlot := j.headSlot + entrySlots e.body, queue := rest, op := none }

/-- R133: the producer of a completed entry is told: the Evaluator of its VERDICT, SHUTDOWN of CLOSED. -/
def tellCompleted (e : Entry) (s : State) : State :=
  match e.body with
  | .verdict .. =>
    match s.evaluator with
    | .awaiting c v (.queued seq) => if seq = e.seq then s.setEvaluator (.awaiting c v (.completed seq)) else s
    | _ => s
  | .closed => produce clsShutdown (Reply.bare .ok) s
  | _ => s

/-- R136, R137: at a completion the Journal becomes FULL when the next entry does not fit and no sector can be
reused; with a producer waiting its entry is queued first (log entry 24). -/
def fullAfterProgram (s : State) : State :=
  if s.journal.waiting = [] ∧ headBlocked s.journal = true ∧ noSectorAhead s.journal = true then becomeFull s
  else s

/-- R133: the program in flight completes. -/
def finishProgram (s : State) : State :=
  match s.journal.queue with
  | [] => s.setJournal { s.journal with op := none }
  | e :: rest => fullAfterProgram (tellCompleted e (s.setJournal (s.journal.programmed e rest)))

/-- ENTRY_PROGRAM_DONE (R133). -/
def execEntryProgramDone (s : State) : Host.Outcome State Fault Refusal :=
  act (s.journal.op == some .program) finishProgram s

/-! ## The head and erases -/

/-- R136, third step: the head entry does not fit and no erase is due. -/
def headMustMove (s : State) : Bool := flashFree s && !eraseDue s && headBlocked s.journal

/-- R134: the head moves into an erased sector, the Journal becomes FULL, or the head waits. -/
def moveHead (s : State) : State :=
  match s.journal.sectorState s.journal.ahead with
  | .erased => s.setJournal { s.journal with headSector := s.journal.ahead, headSlot := 0 }
  | .erasing => s
  | .inUse => if s.journal.reclaimable s.journal.ahead then s else becomeFull s

/-- HEAD_MOVE (R134). -/
def execHeadMove (s : State) : Host.Outcome State Fault Refusal := act (headMustMove s) moveHead s

/-- JOURNAL_ERASE_START (R135, R136): the erase of the sector ahead. -/
def execJournalEraseStart (s : State) : Host.Outcome State Fault Refusal :=
  act (s.journal.op.isNone && eraseDue s)
    (fun s => s.setJournal { s.journal with op := some (.erase s.journal.ahead) }) s

/-- The sector whose erase is in flight. -/
def erasingSector : Option JournalOp → Option Nat
  | some (.erase k) => some k
  | some .program => none
  | none => none

/-- The journal with a sector erased and the flash free. -/
def Journal.erasedSector (j : Journal) (k : Nat) : Journal :=
  { j with slots := dropRange j.slots (k * slotsPerSector) ((k + 1) * slotsPerSector), op := none }

/-- R145: recovery has erased a damaged sector. -/
def Recovery.next (r : Recovery) : Recovery := { r with toErase := r.toErase.tail, erased := r.erased + 1 }

/-- R138: the erase that ends FULL has completed. -/
def endFull (k : Nat) (s : State) : State :=
  if s.journal.full = some .noSector then
    notice (.journalAvailable k s.journal.mark) (s.setJournal { s.journal with full := none })
  else s

/-- R135, R138, R145: the erase in flight completes. -/
def finishJournalErase (s : State) : State :=
  match erasingSector s.journal.op with
  | none => s
  | some k =>
    let s := s.setJournal (s.journal.erasedSector k)
    if s.journal.mode = .recovering then
      s.setJournal { s.journal with recovery := s.journal.recovery.map Recovery.next }
    else endFull k s

/-- JOURNAL_SECTOR_ERASE_DONE (R135). -/
def execJournalSectorEraseDone (s : State) : Host.Outcome State Fault Refusal :=
  act (erasingSector s.journal.op).isSome finishJournalErase s

/-! ## Export -/

/-- A number put into its place in an ascending list. -/
def insertAscending (n : Nat) : List Nat → List Nat
  | [] => [n]
  | m :: rest => if n ≤ m then n :: m :: rest else m :: insertAscending n rest

/-- Numbers in ascending order. -/
def ascending : List Nat → List Nat
  | [] => []
  | n :: rest => insertAscending n (ascending rest)

/-- R140: the complete entries that can be read: a sector being erased gives none (log entry 36). -/
def readableNumbers (j : Journal) : List Nat :=
  ((completeEntries j.slots).filter fun x => j.op != some (.erase (sectorOf x.1))).map fun x => x.2.seq

/-- R140: the numbers of a stream, ascending, at or above a first number and up to a count. -/
def streamOf (j : Journal) (start count : Nat) : List Nat :=
  (ascending ((readableNumbers j).filter fun n => decide (start ≤ n))).take count

/-- R140, R159: the stream is fixed and handed to the port; a running burst ends with the frame being sent. -/
def setStream (l : List Nat) (s : State) : State := s.setPort { s.port with stream := l, burst := none }

/-- R140: the first number of a stream: the one asked for, or the oldest retained when that is below it; 0 when no
entry will follow (log entry 38). -/
def firstOfStream (oldest start : Nat) (l : List Nat) : Nat := if l.isEmpty then 0 else max start oldest

/-- R140: an EXPORT_READ frame's payload. -/
def takeExportRead (payload : List Byte) (s : State) : State :=
  match readExportRead payload with
  | none => respond clsExportRead (Reply.bare .badArg) s
  | some (start, count) =>
    let l := streamOf s.journal start count
    respond clsExportRead (Reply.with .ok (be4 (firstOfStream s.journal.oldest start l) ++ be2 l.length))
      (setStream l s)

/-- EXPORT_READ (R140). -/
def execExportRead (s : State) : Host.Outcome State Fault Refusal :=
  dispatch clsExportRead (journalReady s) takeExportRead s

/-- R142: an export mark, its status, with no entry offered. -/
def markUnchanged (st : Status) (s : State) : State :=
  respond clsExportMark (Reply.with st (be4 s.journal.mark ++ be4 0)) s

/-- R142: the mark raised and its MARK entry offered. -/
def raiseMark (value : Nat) (clamped : Bool) (s : State) : State :=
  offer .control
    (holdResponse clsExportMark
      (s.setJournal { s.journal with mark := value, control := some (.mark value clamped) }))

/-- R142: the three rows of the table. -/
def applyMark (value : Nat) (s : State) : State :=
  if s.journal.highest < value then
    if s.journal.mark < s.journal.highest then raiseMark s.journal.highest true s
    else markUnchanged .okClamped s
  else if value ≤ s.journal.mark then markUnchanged .ok s
  else raiseMark value false s

/-- R142: an EXPORT_MARK frame's payload. -/
def takeExportMark (payload : List Byte) (s : State) : State :=
  match readExportMark payload with
  | none => markUnchanged .badArg s
  | some value => applyMark value s

/-- EXPORT_MARK (R142). -/
def execExportMark (s : State) : Host.Outcome State Fault Refusal :=
  dispatch clsExportMark (journalReady s) takeExportMark s

/-! ## NOTE and shutdown -/

/-- R143: a NOTE frame's payload. -/
def takeNote (payload : List Byte) (s : State) : State :=
  match readNote payload with
  | none => respond clsNote (Reply.with .badArg (be4 0)) s
  | some bytes =>
    offer .control (holdResponse clsNote (s.setJournal { s.journal with control := some (.note bytes) }))

/-- NOTE (R143). -/
def execNote (s : State) : Host.Outcome State Fault Refusal := dispatch clsNote (journalReady s) takeNote s

/-- R16, R147: SHUTTING begins: SHUTDOWN joins the hold causes, and the response is held. -/
def beginShutdown (s : State) : State :=
  holdResponse clsShutdown
    ((s.setJournal { s.journal with mode := .shutting }).setIntake
      { s.intake with causes := { s.intake.causes with shutdown := true } })

/-- R147, R173: a SHUTDOWN frame's payload, which is empty. -/
def takeShutdown (payload : List Byte) (s : State) : State :=
  if payload ≠ [] then respond clsShutdown (Reply.bare .badArg) s
  else if s.journal.mode = .opened then beginShutdown s
  else respond clsShutdown (Reply.bare .badState) s

/-- SHUTDOWN (R147). -/
def execShutdown (s : State) : Host.Outcome State Fault Refusal :=
  dispatch clsShutdown (journalReady s) takeShutdown s

/-- R147: the CLOSED entry is due; a restart's drain writes none. -/
def closedDue (s : State) : Bool :=
  s.journal.mode == .shutting && !s.restarting && s.evaluator.isIdle && s.journal.queue.isEmpty
    && s.journal.waiting.isEmpty && s.journal.control.isNone

/-- CLOSED_ENTRY (R147): the CLOSED entry is offered from the control place, and the Journal enters SHUT. -/
def execClosedEntry (s : State) : Host.Outcome State Fault Refusal :=
  act (closedDue s) (fun s => offer .control (s.setJournal { s.journal with control := some .closed })) s

end Sys2Proof.Machine
end

