-- ==== Sys2Proof/Machine/Loading.lean ====
section
/-! DEFINITION. The load conversation: LOAD_OPEN to LOAD_ABANDON, the staging erase, the programs and the commit
(R59 to R74). -/

namespace Sys2Proof.Machine

/-! ## Opening -/

/-- R64: an accepted LOAD_OPEN. -/
def openLoad (m : Manifest) (d : List DirEntry) (s : State) : State :=
  holdResponse clsLoadOpen
    (s.setTables
      { s.tables with engine := .opening, load := some (loadOf s.tables.targetBank m d), erased := 0 })

/-- R173: the position of the first segment declaration whose kind or placement is a code that spec 11 does not
give. -/
def unlistedCode (raw : RawManifest) : Option Nat := raw.segs.findIdx? fun r => (segDeclOf r).isNone

/-- R59, R173: a LOAD_OPEN outside IDLE: BAD_STATE, but BAD_ARG when its payload is not well formed; the content of that
answer is log entry 26's. -/
def refuseOpen (raw : RawManifest) : Reply :=
  match unlistedCode raw with
  | some i => Reply.with .badArg (be1 1 ++ be1 i)
  | none => Reply.bare .badState

/-- R59: a manifest is checked in IDLE, and taken or refused. -/
def checkManifest (raw : RawManifest) (s : State) : State :=
  if s.tables.engineNow = .idle then
    match openManifest s.tables.activeGeneration raw with
    | .error e => respond clsLoadOpen (Reply.with e.status (be1 e.check ++ [e.position])) s
    | .ok (m, d) => openLoad m d s
  else respond clsLoadOpen (refuseOpen raw) s

/-- R59, R173: a LOAD_OPEN frame's payload. -/
def takeOpen (payload : List Byte) (s : State) : State :=
  match readManifest payload with
  | none => respond clsLoadOpen (Reply.bare .badArg) s
  | some raw => checkManifest raw s

/-- LOAD_OPEN (R59). -/
def execLoadOpen (s : State) : Host.Outcome State Fault Refusal := dispatch clsLoadOpen (tablesReady s) takeOpen s

/-- STAGING_ERASE_START (R64, R65, R66). -/
def execStagingEraseStart (s : State) : Host.Outcome State Fault Refusal := act (stagingEraseReady s) startErase s

/-- The sector erase in flight: bank and sector. -/
def sectorInFlight : Option TableOp → Option (Nat × Nat)
  | some (.eraseSector n k) => some (n, k)
  | some (.headerProgram _) => none
  | some (.recordProgram ..) => none
  | some (.markProgram ..) => none
  | none => none

/-- R65: a sector of a bank has been erased. -/
def sectorErased (n k : Nat) (s : State) : State :=
  s.setTables
    { (s.tables.setBank n ((s.tables.bank n).eraseSector k)) with op := none, erased := s.tables.erased + 1 }

/-- R65, R66, R74, R75: what follows an erase: the abandon that waited, the next erase, or the header. -/
def afterErase (s : State) : State :=
  if s.tables.abandoning then abandonNow s
  else if s.tables.erased = tableSectors then startHeader s
  else startErase s

/-- R65: the erase in flight completes. -/
def finishErase (s : State) : State :=
  match sectorInFlight s.tables.op with
  | none => s
  | some (n, k) => afterErase (sectorErased n k s)

/-- TABLE_SECTOR_ERASE_DONE (R65). -/
def execTableSectorEraseDone (s : State) : Host.Outcome State Fault Refusal :=
  act (sectorInFlight s.tables.op).isSome finishErase s

/-- The header program in flight: its bank. -/
def headerInFlight : Option TableOp → Option Nat
  | some (.headerProgram n) => some n
  | some (.eraseSector ..) => none
  | some (.recordProgram ..) => none
  | some (.markProgram ..) => none
  | none => none

/-- R56, R65: the header of a load as programmed, its commit mark left erased. -/
def headerOf (l : Load) : Header := { manifest := l.manifest, directory := l.directory }

/-- R65: the header stands in its bank. -/
def headerProgrammed (n : Nat) (s : State) : State :=
  s.setTables
    { (s.tables.setBank n { s.tables.bank n with header := s.tables.load.map headerOf, mark := .erased }) with
      op := none }

/-- R65: the load engine becomes LOADING and the LOAD_OPEN is answered OK. -/
def becomeLoading (s : State) : State :=
  produce clsLoadOpen (Reply.with .ok ((s.tables.load.map openContent).getD []))
    (s.setTables { s.tables with engine := .loading })

/-- R65, R74: the header program completes. -/
def finishHeader (s : State) : State :=
  match headerInFlight s.tables.op with
  | none => s
  | some n =>
    let s := headerProgrammed n s
    if s.tables.abandoning then abandonNow s else becomeLoading s

/-- HEADER_PROGRAM_DONE (R65). -/
def execHeaderProgramDone (s : State) : Host.Outcome State Fault Refusal :=
  act (headerInFlight s.tables.op).isSome finishHeader s

/-! ## Records -/

/-- R68: the content of a LOAD_RECORD's OK: newly programmed, already present. -/
def recordContent (new present : Nat) : Reply := Reply.with .ok (be1 new ++ be1 present)

/-- R68: records compared with the bank: in conflict, all present, or to be programmed. -/
def compareRecords (e : DirEntry) (l : Load) (f : RecordFrame) (s : State) : State :=
  let received := l.receivedAt f.position
  let rs := frameRecords e f
  let fresh := newRecords received rs
  match recordConflict (s.tables.bank l.target).mem e received rs with
  | some i => respond clsLoadRecord (Reply.with .conflict (be2 i)) s
  | none =>
    if fresh.isEmpty then respond clsLoadRecord (recordContent 0 f.count) s
    else
      holdResponse clsLoadRecord
        (s.setTables
          { s.tables with
            op := some (.recordProgram l.target f.position fresh (f.count - fresh.length)) })

/-- R67: a LOAD_RECORD dispatched in LOADING. -/
def loadRecords (f : RecordFrame) (s : State) : State :=
  match s.tables.load with
  | none => respond clsLoadRecord (Reply.bare .badState) s
  | some l =>
    match recordFrameEntry l f with
    | none => respond clsLoadRecord (Reply.bare .badArg) s
    | some e => compareRecords e l f s

/-- R67, R69: what a frame that works on the load finds: BUSY in OPENING, BAD_STATE outside LOADING. -/
def inLoading (cls : Nat) (f : State → State) (s : State) : State :=
  match s.tables.engineNow with
  | .opening => respond cls (Reply.bare .busy) s
  | .loading => f s
  | .idle => respond cls (Reply.bare .badState) s
  | .closed => respond cls (Reply.bare .badState) s
  | .scheduled => respond cls (Reply.bare .badState) s
  | .committing => respond cls (Reply.bare .badState) s

/-- R67, R173: a LOAD_RECORD frame's payload. -/
def takeRecord (payload : List Byte) (s : State) : State :=
  match readRecordFrame payload with
  | none => respond clsLoadRecord (Reply.bare .badArg) s
  | some f => inLoading clsLoadRecord (loadRecords f) s

/-- LOAD_RECORD (R67, R68). -/
def execLoadRecord (s : State) : Host.Outcome State Fault Refusal :=
  dispatch clsLoadRecord (tablesReady s) takeRecord s

/-- R68: the records in flight stand in the bank and join the received-record set. -/
def recordsProgrammed (n position : Nat) (rs : List (Nat × List Byte)) (l : Load) (e : DirEntry) (s : State) :
    State :=
  s.setTables
    { (s.tables.setBank n { s.tables.bank n with mem := programRecords e rs (s.tables.bank n).mem }) with
      op := none, load := some (l.receive position (rs.map Prod.fst)) }

/-- R68: the record program completes. -/
def finishRecords (s : State) : State :=
  match s.tables.op, s.tables.load with
  | some (.recordProgram n position rs present), some l =>
    match l.directory[position]? with
    | none => s
    | some e => produce clsLoadRecord (recordContent rs.length present) (recordsProgrammed n position rs l e s)
  | _, _ => s

/-- RECORD_PROGRAM_DONE (R68). -/
def execRecordProgramDone (s : State) : Host.Outcome State Fault Refusal :=
  act (recordInFlight s.tables.op) finishRecords s

/-! ## Closing -/

/-- R69: the completeness check, and the content check started when it passes. -/
def closeLoad (s : State) : State :=
  match s.tables.load with
  | none => respond clsLoadClose (Reply.bare .badState) s
  | some l =>
    match missingRecord 0 l.directory l.received with
    | some at_ => respond clsLoadClose (closeFailed 1 at_) s
    | none => holdResponse clsLoadClose (s.setTables { s.tables with checking := true })

/-- R69, R173: a LOAD_CLOSE frame's payload, which is empty. -/
def takeClose (payload : List Byte) (s : State) : State :=
  if payload = [] then inLoading clsLoadClose closeLoad s else respond clsLoadClose (Reply.bare .badArg) s

/-- LOAD_CLOSE (R69). -/
def execLoadClose (s : State) : Host.Outcome State Fault Refusal :=
  dispatch clsLoadClose (tablesReady s) takeClose s

/-- R51: what the content check of the load in progress reports. -/
def checkResult (t : TableStore) : Option (Nat × Nat) :=
  t.load.bind fun l => contentFailure l.manifest (t.bank l.target).mem 0 l.directory

/-- R69: the content check completes. -/
def finishCheck (s : State) : State :=
  match checkResult s.tables with
  | some at_ => produce clsLoadClose (closeFailed 2 at_) (s.setTables { s.tables with checking := false })
  | none =>
    produce clsLoadClose (Reply.bare .ok) (s.setTables { s.tables with checking := false, engine := .closed })

/-- CONTENT_CHECK_DONE (R69). -/
def execContentCheckDone (s : State) : Host.Outcome State Fault Refusal := act s.tables.checking finishCheck s

/-! ## Committing -/

/-- R70: the states in which a LOAD_COMMIT is taken. -/
def commitTaken (t : TableStore) : Bool := t.engineNow == .closed || t.engineNow == .scheduled

/-- R70: an immediate commit begins, its response held. -/
def commitAtOnce (s : State) : State := beginCommit .immediate (holdResponse clsLoadCommit s)

/-- R70: a LOAD_COMMIT carrying NOW. -/
def takeCommitNow (payload : List Byte) (s : State) : State :=
  if !readCommitNow payload then respond clsLoadCommit (Reply.bare .badArg) s
  else if commitTaken s.tables then commitAtOnce s
  else respond clsLoadCommit (Reply.bare .badState) s

/-- LOAD_COMMIT_NOW (R70). -/
def execLoadCommitNow (s : State) : Host.Outcome State Fault Refusal :=
  dispatchWhen clsLoadCommit (tablesReady s) commitModeNow takeCommitNow s

/-- R70: a commit scheduled for a time later than the clock. -/
def schedule (t : Time) (s : State) : State :=
  respond clsLoadCommit (Reply.with .ok (timeBytes t))
    (s.setTables { s.tables with engine := .scheduled, schedule := some t })

/-- R70: a LOAD_COMMIT carrying a service time. -/
def takeCommitTime (payload : List Byte) (s : State) : State :=
  match readCommitTime payload with
  | none => respond clsLoadCommit (Reply.bare .badArg) s
  | some t =>
    if !commitTaken s.tables then respond clsLoadCommit (Reply.bare .badState) s
    else if t.atOrBefore s.position.clock then commitAtOnce s
    else schedule t s

/-- LOAD_COMMIT_TIME (R70). -/
def execLoadCommitTime (s : State) : Host.Outcome State Fault Refusal :=
  dispatchWhen clsLoadCommit (tablesReady s) (fun p => !commitModeNow p) takeCommitTime s

/-- R72: the load engine becomes COMMITTING and the mark program starts. -/
def startMark (s : State) : State :=
  match s.tables.commitDue with
  | none => s
  | some kind =>
    s.setTables
      { s.tables with engine := .committing, commitDue := none, op := some (.markProgram s.tables.loadTarget kind) }

/-- COMMIT_BEGIN (R72). -/
def execCommitBegin (s : State) : Host.Outcome State Fault Refusal :=
  act (s.tables.commitDue.isSome && s.tables.op.isNone) startMark s

/-- The mark program in flight: its bank and the kind of commit. -/
def markInFlight : Option TableOp → Option (Nat × CommitKind)
  | some (.markProgram n kind) => some (n, kind)
  | some (.eraseSector ..) => none
  | some (.headerProgram _) => none
  | some (.recordProgram ..) => none
  | none => none

/-- R73: the COMMIT_DONE notice, with the role the other bank took. -/
def commitNotice (n previous : Nat) (kind : CommitKind) (s : State) : State :=
  notice
    (.commitDone (s.tables.bank n).generation (s.tables.bank n).epochDay previous kind n
      (s.tables.bank (1 - n)).role) s

/-- R72, R73: the commit takes effect, its COMMIT entry in the outgoing place. -/
def committedTables (t : TableStore) (n : Nat) (kind : CommitKind) : TableStore :=
  let b := t.bank n
  { (t.committed n).endLoad with
    outgoing := some (.commit b.generation b.epochDay t.activeGeneration kind) }

/-- R72, R73: the mark program completes. -/
def finishCommit (s : State) : State :=
  match markInFlight s.tables.op with
  | none => s
  | some (n, kind) =>
    let previous := s.tables.activeGeneration
    let s := offer .tables (s.setTables (committedTables s.tables n kind))
    checkPosition (commitNotice n previous kind s)

/-- COMMIT_MARK_DONE (R72, R73). -/
def execCommitMarkDone (s : State) : Host.Outcome State Fault Refusal :=
  act (markInFlight s.tables.op).isSome finishCommit s

/-! ## Abandoning -/

/-- R74: LOADING, CLOSED or SCHEDULED given up at once. -/
def abandonAtOnce (s : State) : State :=
  respond clsLoadAbandon (abandonReply s.tables.engine) (s.setTables s.tables.endLoad)

/-- R74: a LOAD_ABANDON by the state of the load engine. -/
def abandonLoad (s : State) : State :=
  match s.tables.engineNow with
  | .idle => respond clsLoadAbandon (Reply.bare .badState) s
  | .committing => respond clsLoadAbandon (Reply.bare .badState) s
  | .opening =>
    if s.tables.op.isNone then respond clsLoadAbandon (abandonReply .opening) (abandonOpen s)
    else holdResponse clsLoadAbandon (s.setTables { s.tables with abandoning := true })
  | .loading => abandonAtOnce s
  | .closed => abandonAtOnce s
  | .scheduled => abandonAtOnce s

/-- R74, R173: a LOAD_ABANDON frame's payload, which is empty. -/
def takeAbandon (payload : List Byte) (s : State) : State :=
  if payload = [] then abandonLoad s else respond clsLoadAbandon (Reply.bare .badArg) s

/-- LOAD_ABANDON (R74). -/
def execLoadAbandon (s : State) : Host.Outcome State Fault Refusal :=
  dispatch clsLoadAbandon (tablesReady s) takeAbandon s

end Sys2Proof.Machine
end

