-- ==== Sys2Proof/Machine/Position.lean ====
section
/-! DEFINITION. TIME, DEPART, ARRIVE, SWITCH, COACH, RUN_START and MINUTE_TICK (R19 to R35). -/

namespace Sys2Proof.Machine

/-! ## The clock -/

/-- R21, second case: on the same day and earlier by 1 or 2 minutes. -/
def slightlyEarly (t c : Time) : Bool :=
  t.day == c.day && decide (t.minute < c.minute) && decide (c.minute ≤ t.minute + 2)

/-- The clock set to a time, the debt cleared, the clock valid (R21). -/
def setClock (t : Time) (s : State) : State :=
  s.setPosition { s.position with clock := t, valid := true, debt := 0 }

/-- R30: the history cleared. -/
def clearHistory (s : State) : State := s.setPosition { s.position with history := [], wrapped := false }

/-- R21: a service time is applied to the clock, and a new value given to the Table Store (R19). -/
def applyTime (t : Time) (s : State) : State :=
  if s.position.clock.atOrBefore t then clockChanged (setClock t s)
  else if slightlyEarly t s.position.clock then
    s.setPosition { s.position with valid := true, debt := s.position.clock.minute - t.minute }
  else
    clockChanged
      (notice (.clockCorrected s.position.clock t s.position.history.length) (clearHistory (setClock t s)))

/-- R22: what the response to a time-bearing frame carries. -/
def timeContent (s : State) : List Byte :=
  posBytes s.position.pos ++ be1 (absent0 s.position.route) ++ timeBytes s.position.clock

/-- R22: a time-bearing frame answered with a status. -/
def answerTime (cls : Nat) (st : Status) (s : State) : State := respond cls (Reply.with st (timeContent s)) s

/-- R22, R23: a TIME frame's payload. -/
def takeTime (payload : List Byte) (s : State) : State :=
  match readTime payload with
  | none => answerTime clsTime .badArg s
  | some t => answerTime clsTime .ok (applyTime t s)

/-- TIME (R23). -/
def execTime (s : State) : Host.Outcome State Fault Refusal := dispatch clsTime (positionReady s) takeTime s

/-! ## Position reports -/

/-- R25: a report's route and index name a stop of the active bank. -/
def reportNamesStop (active : Option Bank) (r : Report) : Bool :=
  match active with
  | none => false
  | some b => routePresent b r.route && decide (1 ≤ r.index) && decide (r.index ≤ routeLength b r.route)

/-- R25, fourth case: the index of a DEPART is the last of its route. -/
def lastOfRoute (active : Option Bank) (r : Report) : Bool :=
  match active with
  | none => false
  | some b => r.index == routeLength b r.route

/-- R26: the states from which DEPART(k) is accepted. -/
def departFits (p : PositionUnit) (r : Report) : Bool :=
  match p.pos with
  | .unknown => true
  | .atStop j => p.route == some r.route && decide (j ≤ r.index)
  | .between j => p.route == some r.route && decide (j < r.index)

/-- R27: the states from which ARRIVE(k) is accepted. -/
def arriveFits (p : PositionUnit) (r : Report) : Bool :=
  match p.pos with
  | .unknown => true
  | .atStop j => p.route == some r.route && decide (j < r.index)
  | .between j => p.route == some r.route && decide (j + 1 ≤ r.index)

/-- The length of a route in the ACTIVE bank (R24). -/
def activeLength (s : State) (route : Nat) : Option Nat := s.tables.active.map fun b => routeLength b route

/-- R24: a new state; the route and its length are set when the state leaves UNKNOWN. -/
def moveTo (pos : PosState) (route : Nat) (s : State) : State :=
  if s.position.pos = .unknown then
    s.setPosition { s.position with pos := pos, route := some route, length := activeLength s route }
  else s.setPosition { s.position with pos := pos }

/-- Most entries of the history (R29). -/
def historyLimit : Nat := 24

/-- R29: an entry pushed into the history; the 25th overwrites the oldest. -/
def pushDeparture (d : Departure) (s : State) : State :=
  if s.position.history.length < historyLimit then
    s.setPosition { s.position with history := s.position.history ++ [d] }
  else s.setPosition { s.position with history := s.position.history.drop 1 ++ [d], wrapped := true }

/-- R29: the departure of a report, copied from the active bank and timed with the clock. -/
def departureOf (s : State) (r : Report) : Departure :=
  match s.tables.active.bind fun b => stopAt b r.route r.index with
  | some st =>
    { route := r.route, index := r.index, code := st.code, auth := st.auth, zone := st.zone,
      time := s.position.clock }
  | none => { route := r.route, index := r.index, code := 0, auth := 0, zone := 0, time := s.position.clock }

/-- R31: the DEPART entry offered, the response held until it is queued or dropped. -/
def offerDeparture (d : Departure) (s : State) : State :=
  offer .position
    (holdResponse clsDepart
      (s.setPosition
        { s.position with
          outgoing := some { body := .depart d.route d.index d.code d.time, cls := clsDepart,
                             content := timeContent s } }))

/-- R26, R29, R31: an accepted DEPART. -/
def departed (r : Report) (s : State) : State :=
  let d := departureOf s r
  offerDeparture d (pushDeparture d (moveTo (.between r.index) r.route s))

/-- R25, R26: a DEPART whose time has been applied. -/
def checkDepart (r : Report) (s : State) : State :=
  if !reportNamesStop s.tables.active r || lastOfRoute s.tables.active r then answerTime clsDepart .badArg s
  else if departFits s.position r then departed r s
  else answerTime clsDepart .badState s

/-- R22, R26: a DEPART frame's payload. -/
def takeDepart (payload : List Byte) (s : State) : State :=
  match readReport payload with
  | none => answerTime clsDepart .badArg s
  | some r => checkDepart r (applyTime r.time s)

/-- DEPART (R26). -/
def execDepart (s : State) : Host.Outcome State Fault Refusal :=
  dispatch clsDepart (positionReady s) takeDepart s

/-- R25, R27: an ARRIVE whose time has been applied. -/
def checkArrive (r : Report) (s : State) : State :=
  if !reportNamesStop s.tables.active r then answerTime clsArrive .badArg s
  else if arriveFits s.position r then answerTime clsArrive .ok (moveTo (.atStop r.index) r.route s)
  else answerTime clsArrive .badState s

/-- R22, R27: an ARRIVE frame's payload. -/
def takeArrive (payload : List Byte) (s : State) : State :=
  match readReport payload with
  | none => answerTime clsArrive .badArg s
  | some r => checkArrive r (applyTime r.time s)

/-- ARRIVE (R27). -/
def execArrive (s : State) : Host.Outcome State Fault Refusal :=
  dispatch clsArrive (positionReady s) takeArrive s

/-- R28: an accepted SWITCH. -/
def switched (r : Report) (s : State) : State :=
  s.setPosition
    { s.position with pos := .atStop r.index, route := some r.route, length := activeLength s r.route }

/-- R25, R28: a SWITCH whose time has been applied. -/
def checkSwitch (r : Report) (s : State) : State :=
  if !reportNamesStop s.tables.active r then answerTime clsSwitch .badArg s
  else answerTime clsSwitch .ok (switched r s)

/-- R22, R28: a SWITCH frame's payload. -/
def takeSwitch (payload : List Byte) (s : State) : State :=
  match readReport payload with
  | none => answerTime clsSwitch .badArg s
  | some r => checkSwitch r (applyTime r.time s)

/-- SWITCH (R28). -/
def execSwitch (s : State) : Host.Outcome State Fault Refusal :=
  dispatch clsSwitch (positionReady s) takeSwitch s

/-! ## Coach and run -/

/-- The highest coach number (R33). -/
def lastCoach : Nat := 32

/-- R33: a COACH frame's payload. -/
def takeCoach (payload : List Byte) (s : State) : State :=
  match readCoach payload with
  | none => respond clsCoach (Reply.bare .badArg) s
  | some (coach, demand) =>
    if coach ≤ lastCoach then
      respond clsCoach (Reply.bare .ok) (s.setPosition { s.position with coach := coach, demand := demand })
    else respond clsCoach (Reply.bare .badArg) s

/-- COACH (R33). -/
def execCoach (s : State) : Host.Outcome State Fault Refusal := dispatch clsCoach (positionReady s) takeCoach s

/-- R34: the Position Unit's part of a RUN_START, its entry in the outgoing place. -/
def newRun (run : Nat) (s : State) : State :=
  s.setPosition
    { s.position with run := run, history := [], wrapped := false, pos := .unknown, route := none, length := none,
                      outgoing := some { body := .runStart, cls := clsRunStart, content := [] } }

/-- R125: the memory's part of a RUN_START: cleared at once, or at the end of the evaluation in flight. -/
def clearOrDefer (s : State) : State :=
  if s.evaluator.isIdle then clearMemory s else s.setMemory { s.memory with clearDeferred := true }

/-- R14, R34, R125: an accepted RUN_START. The notices are placed in the order of log entry 23; the HOLD_STATE notice of
the flow step follows with the flow frame, behind them and any JOURNAL_FULL (log entry 46). -/
def startRun (run : Nat) (s : State) : State :=
  offer .position (clearOrDefer (emptyQueue .runStart (newRun run (holdResponse clsRunStart s))))

/-- R34: a RUN_START frame's payload. -/
def takeRunStart (payload : List Byte) (s : State) : State :=
  match readRunStart payload with
  | none => respond clsRunStart (Reply.bare .badArg) s
  | some run => if run = 0 then respond clsRunStart (Reply.bare .badArg) s else startRun run s

/-- RUN_START (R34). -/
def execRunStart (s : State) : Host.Outcome State Fault Refusal :=
  dispatch clsRunStart (positionReady s) takeRunStart s

/-! ## The minute tick -/

/-- The length of a minute on the internal time base (R20). -/
def minuteMs : Nat := 60000

/-- R20: what a tick does to the clock. -/
def tickClock (s : State) : State :=
  if 0 < s.position.debt then s.setPosition { s.position with debt := s.position.debt - 1 }
  else if s.position.clock.minute < lastMinute then
    clockChanged
      (s.setPosition
        { s.position with clock := { s.position.clock with minute := s.position.clock.minute + 1 } })
  else s

/-- R20: a tick, at its moment on the internal time base; the next is a minute later. -/
def minuteTick (s : State) : State :=
  tickClock ((s.setTimeBase (max s.timeBase s.nextTick)).setNextTick (s.nextTick + minuteMs))

/-- MINUTE_TICK (R20). -/
def execMinuteTick (s : State) : Host.Outcome State Fault Refusal := act true minuteTick s

end Sys2Proof.Machine
end

