-- ==== Sys2Proof/Machine/Trips.lean ====
section
/-! DEFINITION. CONSUME_REPORT and CONSUME_WINDOW_EXPIRY (R121 to R124). -/

namespace Sys2Proof.Machine

/-- The trip state a matching report leaves (R122). -/
def reportedTrip : ConsumeOutcome → TripState
  | .written => .taken
  | .notWritten => .none
  | .timedOut => .none
  | .takenLate => .taken
  | .cleared => .none

/-- A list entry that a report matches: both tag and key (R122). -/
def matchesReport (tag : Nat) (key : Key) (p : PendingConsume) : Bool := p.tag == tag && p.key == key

/-- R123: the slots after a late WRITTEN report: the key is TAKEN unless it is PENDING. -/
def lateTaken (slots : List (Nat × Sighting)) (key : Key) : List (Nat × Sighting) :=
  if tripOf slots key = some .pending then slots else setTrip slots key .taken

/-- R122, R123: what a well-formed report does. -/
def applyReport (tag : Nat) (key : Key) (outcome : ConsumeOutcome) (s : State) : State :=
  if s.memory.pendingList.any (matchesReport tag key) then
    resolve tag key outcome
      (s.setMemory
        { s.memory with slots := setTrip s.memory.slots key (reportedTrip outcome),
                        pendingList := s.memory.pendingList.eraseP (matchesReport tag key) })
  else if outcome = .written then
    resolve tag key .takenLate (s.setMemory { s.memory with slots := lateTaken s.memory.slots key })
  else s

/-- R122: a report's payload; one that is not well formed has no effect. -/
def takeReport (payload : List Byte) (s : State) : State :=
  match readConsumeReport payload with
  | none => s
  | some (tag, key, outcome) => applyReport tag key outcome s

/-- A whole frame of one class on the reader link is acted on when its last byte is received (R1, R122). -/
def onReaderFrame (cls : Nat) (bytes : List Byte) (f : List Byte → State → State) (s : State) :
    Host.Outcome State Fault Refusal :=
  match wholeFrame [cls] (rxAfter .reader bytes s) with
  | none => .next s
  | some (_, payload, rest) => act true (fun s => f payload (setRx .reader rest s)) s

/-- CONSUME_REPORT (R122). -/
def execConsumeReport (bytes : List Byte) (s : State) : Host.Outcome State Fault Refusal :=
  onReaderFrame clsConsumeReport bytes takeReport s

/-- R121: the window of the oldest list entry expires, at its moment on the internal time base. -/
def expireWindow (s : State) : State :=
  match s.memory.pendingList with
  | [] => s
  | p :: rest =>
    let s := s.setTimeBase (max s.timeBase p.expiry)
    resolve p.tag p.key .timedOut
      (s.setMemory { s.memory with slots := setTrip s.memory.slots p.key .none, pendingList := rest })

/-- CONSUME_WINDOW_EXPIRY (R121). The lists' expiries rise, so the next to expire is the head. -/
def execConsumeWindowExpiry (s : State) : Host.Outcome State Fault Refusal :=
  act (!s.memory.pendingList.isEmpty) expireWindow s

end Sys2Proof.Machine
end

