-- ==== Sys2Proof/Machine/Reception.lean ====
section
/-! DEFINITION. PRESENTATION, FRAME_CHECK_FAILED, CONTROL_FRAME_RECEIVED, READER_TX_DONE and TERMINAL_TX_DONE (R1,
R11, R151, R152, R158). -/

namespace Sys2Proof.Machine

/-- R3, R8: a reader presentation discarded on arrival. -/
def discardArrival (why : DiscardReason) (key : Option Key) (s : State) : State :=
  notice (.discarded why .reader none key s.position.clock) (addTap .notRead s)

/-- R1, R3, R6, R8: a presentation frame's payload. -/
def takePresentation (payload : List Byte) (s : State) : State :=
  match readPresentation payload with
  | none => discardArrival .malformed (payloadKey payload) s
  | some p =>
    if s.intake.queue.length < queueLimit then enrol .reader p s
    else discardArrival .queueFull (some p.key) s

/-- PRESENTATION (R1). -/
def execPresentation (bytes : List Byte) (s : State) : Host.Outcome State Fault Refusal :=
  onReaderFrame clsPresentation bytes takePresentation s

/-- FRAME_CHECK_FAILED (R151): the frame is discarded without trace. -/
def execFrameCheckFailed (l : Link) (bytes : List Byte) (s : State) : Host.Outcome State Fault Refusal :=
  match failedRest l (rxAfter l bytes s) with
  | none => .next s
  | some rest => act true (setRx l rest) s

/-- R152: a control frame goes into an empty input place, and is discarded when the place is occupied. -/
def takeControl (cls : Nat) (payload : List Byte) (s : State) : State :=
  match s.port.input with
  | none => s.setPort { s.port with input := some { cls := cls, payload := payload } }
  | some _ => s

/-- CONTROL_FRAME_RECEIVED (R152). -/
def execControlFrameReceived (bytes : List Byte) (s : State) : Host.Outcome State Fault Refusal :=
  match wholeFrame (classesToward .terminal) (rxAfter .terminal bytes s) with
  | none => .next s
  | some (cls, payload, rest) => act true (fun s => takeControl cls payload (setRx .terminal rest s)) s

/-- READER_TX_DONE (R11): the transmitter is free, and takes what waits. -/
def execReaderTxDone (s : State) : Host.Outcome State Fault Refusal :=
  act s.reader.sending.isSome (fun s => s.setReader { s.reader with sending := none }) s

/-- R154, R157: a response or verdict that has been sent leaves its queue. -/
def TerminalPort.sent (p : TerminalPort) : TerminalPort :=
  match p.sending with
  | some (.response ..) => { p with responses := p.responses.tail, sending := none }
  | some (.verdict _) => { p with verdicts := p.verdicts.tail, sending := none }
  | some (.notice ..) => { p with sending := none }
  | some (.journalEntry _) => { p with sending := none }
  | none => p

/-- TERMINAL_TX_DONE (R158): the transmitter is free, and the arbiter chooses. -/
def execTerminalTxDone (s : State) : Host.Outcome State Fault Refusal :=
  act s.port.sending.isSome (fun s => s.setPort s.port.sent) s

end Sys2Proof.Machine
end

