-- ==== Sys2Proof/Machine/Recovery.lean ====
section
/-! DEFINITION. The Journal's start-up recovery: RECOVERY_READ_DONE, RECOVERY_ERASE and STARTED_ENTRY (R144 to
R146). -/

namespace Sys2Proof.Machine

/-- The entry with the highest number among some. -/
def highestEntry (l : List (Nat × Entry)) : Option (Nat × Entry) :=
  l.foldl
    (fun best x => match best with
      | none => some x
      | some b => if b.2.seq < x.2.seq then some x else some b) none

/-- The value a MARK entry records, 0 for other kinds. -/
def markValue (e : Entry) : Nat :=
  match e.body with
  | .mark v => v
  | _ => 0

/-- R146: the recovered export mark. -/
def recoveredMark (entries : List Entry) : Nat :=
  max (greatest (entries.map markValue)) (least (entries.map Entry.seq) - 1)

/-- R35, R146: the run number of the complete RUN_START entry with the highest number, or 0. -/
def recoveredRun (complete : List (Nat × Entry)) : Nat :=
  ((highestEntry (complete.filter fun x => x.2.body == .runStart)).map fun x => x.2.run).getD 0

/-- A slot that belongs to no complete entry (R144). -/
def brokenSlot (slots : List (Nat × JSlot)) (x : Nat × JSlot) : Bool :=
  match x.2 with
  | .torn => true
  | .part e i => decide (x.1 < i) || decide (entrySlots e.body ≤ i) || !completeAt slots (x.1 - i) e

/-- R144: a sector is damaged: not the head sector, and holding a slot neither erased nor complete; with no
complete entry in the ring, every sector with a programmed slot. -/
def damaged (slots : List (Nat × JSlot)) (head : Option Nat) (k : Nat) : Bool :=
  decide (head ≠ some k) && (sectorSlots slots k).any (brokenSlot slots)

/-- R144, R145, R146: what the reading of the ring finds. The damaged sectors to erase stand in ascending order (log entry
44). -/
def recoveryOf (slots : List (Nat × JSlot)) : Recovery :=
  let complete := completeEntries slots
  let top := highestEntry complete
  let head := top.map fun x => sectorOf x.1
  let mark := recoveredMark (complete.map Prod.snd)
  { headSector := head.getD 0, highest := top.map fun x => x.2.seq, mark := mark, run := recoveredRun complete,
    closedLast := top.any fun x => x.2.body == .closed,
    toErase := (List.range sectorCount).filter fun k => damaged slots head k && takenOff slots mark k,
    erased := 0 }

/-- RECOVERY_READ_DONE (R144): the slots have been read and classed. -/
def execRecoveryReadDone (s : State) : Host.Outcome State Fault Refusal :=
  act (s.journal.mode == .recovering && s.journal.recovery.isNone)
    (fun s => s.setJournal { s.journal with recovery := some (recoveryOf s.journal.slots) }) s

/-- The damaged sector recovery erases next (R145). -/
def nextRecoveryErase (j : Journal) : Option Nat :=
  if j.mode = .recovering ∧ j.op = none then j.recovery.bind fun r => r.toErase.head? else none

/-- The erase of a damaged sector starts. -/
def startRecoveryErase (s : State) : State :=
  match nextRecoveryErase s.journal with
  | none => s
  | some k => s.setJournal { s.journal with op := some (.erase k) }

/-- RECOVERY_ERASE (R145): the erase of a damaged sector starts, once SAFE does not hold it back. -/
def execRecoveryErase (s : State) : Host.Outcome State Fault Refusal :=
  act ((nextRecoveryErase s.journal).isSome && !s.safe) startRecoveryErase s

/-- R146: the slot after the highest programmed slot of a sector, torn slots counted. -/
def slotAfter (slots : List (Nat × JSlot)) (k : Nat) : Nat :=
  greatest ((sectorSlots slots k).map fun x => x.1 % slotsPerSector + 1)

/-- R146: the next sequence number. A number past the last is kept as the last plus 1, which is never given (log
entry 28). -/
def recoveredNext : Option Nat → Nat
  | none => 1
  | some h => min (h + 17) (lastSequence + 1)

/-- R146: the cause of the STARTED entry. -/
def startCause (warm closedLast : Bool) : StartCause :=
  if warm then .warm else if closedLast then .powerOnOrderly else .powerOnAbrupt

/-- R146: the recovered values, and the STARTED entry in the control place. -/
def recovered (j : Journal) (r : Recovery) (generation : Nat) : Journal :=
  { j with
    mode := .opened, full := if lastSequence < recoveredNext r.highest then some .exhausted else none,
    headSector := r.headSector, headSlot := slotAfter j.slots r.headSector, nextSeq := recoveredNext r.highest,
    mark := max r.mark (j.oldest - 1), control := some (.started (startCause j.warm r.closedLast) generation) }

/-- R146: after the STARTED notice, the JOURNAL_FULL notice of a journal with no number left. -/
def exhaustedAtStart (r : Recovery) (s : State) : State :=
  if lastSequence < recoveredNext r.highest then fullNotice .exhausted 0 s else s

/-- R132, R146: the resolutions that waited during recovery are offered. -/
def offerWaitingResolutions (s : State) : State :=
  if s.memory.resolutions.isEmpty then s else offer .memory s

/-- R35, R146: recovery completes. -/
def finishRecovery (s : State) : State :=
  match s.journal.recovery with
  | none => s
  | some r =>
    let s := s.setPosition { s.position with run := r.run }
    let s := offer .control (s.setJournal (recovered s.journal r s.tables.activeGeneration))
    let s := exhaustedAtStart r s
    offerWaitingResolutions (s.setJournal { s.journal with recovery := none })

/-- Recovery has read the ring and no damaged sector is left to erase (R145, R146). -/
def recoveryComplete (j : Journal) : Bool :=
  j.mode == .recovering && j.op.isNone && j.recovery.any fun r => r.toErase.isEmpty

/-- STARTED_ENTRY (R146). -/
def execStartedEntry (s : State) : Host.Outcome State Fault Refusal :=
  act (recoveryComplete s.journal) finishRecovery s

end Sys2Proof.Machine
end

