-- ==== Sys2Proof/Machine/Sounding.lean ====
section
/-! DEFINITION. PATTERN_COMPLETION and NOTE_END (R167, R169). -/

namespace Sys2Proof.Machine

/-- R169: the playing pattern completes, at its moment on the internal time base. -/
def completePattern (s : State) : State :=
  match s.annunciator.playing with
  | none => s
  | some p => (s.setTimeBase (max s.timeBase p.finish)).setAnnunciator (s.annunciator.complete p.finish)

/-- PATTERN_COMPLETION (R169). -/
def execPatternCompletion (s : State) : Host.Outcome State Fault Refusal :=
  act s.annunciator.playing.isSome completePattern s

/-- R167: the note that ends next ends, at its moment on the internal time base (log entry 25). -/
def endNote (s : State) : State :=
  match s.annunciator.playing with
  | none => s
  | some p =>
    match p.nextEnding with
    | none => s
    | some (v, at_) =>
      (s.setTimeBase (max s.timeBase at_)).setAnnunciator
        { s.annunciator with playing := some (p.noteEnd v at_) }

/-- NOTE_END (R167). -/
def execNoteEnd (s : State) : Host.Outcome State Fault Refusal :=
  act (s.annunciator.playing.any fun p => p.nextEnding.isSome) endNote s

end Sys2Proof.Machine
end

