-- ==== Sys2Proof/Machine/Dispatch.lean ====
section
/-! DEFINITION. One arm for each command: a direct call of its meaning. -/

namespace Sys2Proof.Machine

/-- The effect of a command on everything but the queue of commands. -/
def exec (i : Instr) (s : State) : Host.Outcome State Fault Refusal :=
  match i with
  | .powerOn lowAsserted => Sys2Proof.Machine.execPowerOn lowAsserted s
  | .recoveryReadDone => Sys2Proof.Machine.execRecoveryReadDone s
  | .recoveryErase => Sys2Proof.Machine.execRecoveryErase s
  | .startedEntry => Sys2Proof.Machine.execStartedEntry s
  | .supplyLowAsserted => Sys2Proof.Machine.execSupplyLowAsserted s
  | .supplyLowDeasserted => Sys2Proof.Machine.execSupplyLowDeasserted s
  | .presentation bytes => Sys2Proof.Machine.execPresentation bytes s
  | .consumeReport bytes => Sys2Proof.Machine.execConsumeReport bytes s
  | .frameCheckFailed link bytes => Sys2Proof.Machine.execFrameCheckFailed link bytes s
  | .controlFrameReceived bytes => Sys2Proof.Machine.execControlFrameReceived bytes s
  | .present => Sys2Proof.Machine.execPresent s
  | .intakeFlush => Sys2Proof.Machine.execIntakeFlush s
  | .time => Sys2Proof.Machine.execTime s
  | .depart => Sys2Proof.Machine.execDepart s
  | .arrive => Sys2Proof.Machine.execArrive s
  | .switch => Sys2Proof.Machine.execSwitch s
  | .coach => Sys2Proof.Machine.execCoach s
  | .runStart => Sys2Proof.Machine.execRunStart s
  | .loadOpen => Sys2Proof.Machine.execLoadOpen s
  | .stagingEraseStart => Sys2Proof.Machine.execStagingEraseStart s
  | .tableSectorEraseDone => Sys2Proof.Machine.execTableSectorEraseDone s
  | .headerProgramDone => Sys2Proof.Machine.execHeaderProgramDone s
  | .loadRecord => Sys2Proof.Machine.execLoadRecord s
  | .recordProgramDone => Sys2Proof.Machine.execRecordProgramDone s
  | .loadClose => Sys2Proof.Machine.execLoadClose s
  | .contentCheckDone => Sys2Proof.Machine.execContentCheckDone s
  | .loadCommitNow => Sys2Proof.Machine.execLoadCommitNow s
  | .loadCommitTime => Sys2Proof.Machine.execLoadCommitTime s
  | .commitBegin => Sys2Proof.Machine.execCommitBegin s
  | .commitMarkDone => Sys2Proof.Machine.execCommitMarkDone s
  | .loadAbandon => Sys2Proof.Machine.execLoadAbandon s
  | .exportRead => Sys2Proof.Machine.execExportRead s
  | .exportMark => Sys2Proof.Machine.execExportMark s
  | .note => Sys2Proof.Machine.execNote s
  | .shutdown => Sys2Proof.Machine.execShutdown s
  | .closedEntry => Sys2Proof.Machine.execClosedEntry s
  | .config => Sys2Proof.Machine.execConfig s
  | .queryStatus => Sys2Proof.Machine.execQueryStatus s
  | .queryDirectory => Sys2Proof.Machine.execQueryDirectory s
  | .queryHistory => Sys2Proof.Machine.execQueryHistory s
  | .queryMemory => Sys2Proof.Machine.execQueryMemory s
  | .restart => Sys2Proof.Machine.execRestart s
  | .drainEnd => Sys2Proof.Machine.execDrainEnd s
  | .warmRestartEffect => Sys2Proof.Machine.execWarmRestartEffect s
  | .minuteTick => Sys2Proof.Machine.execMinuteTick s
  | .evaluationBegin => Sys2Proof.Machine.execEvaluationBegin s
  | .checkCompletion => Sys2Proof.Machine.execCheckCompletion s
  | .waitingEntryQueued => Sys2Proof.Machine.execWaitingEntryQueued s
  | .verdictIssue => Sys2Proof.Machine.execVerdictIssue s
  | .entryProgramStart => Sys2Proof.Machine.execEntryProgramStart s
  | .entryProgramDone => Sys2Proof.Machine.execEntryProgramDone s
  | .headMove => Sys2Proof.Machine.execHeadMove s
  | .journalEraseStart => Sys2Proof.Machine.execJournalEraseStart s
  | .journalSectorEraseDone => Sys2Proof.Machine.execJournalSectorEraseDone s
  | .consumeWindowExpiry => Sys2Proof.Machine.execConsumeWindowExpiry s
  | .patternCompletion => Sys2Proof.Machine.execPatternCompletion s
  | .readerTxDone => Sys2Proof.Machine.execReaderTxDone s
  | .terminalTxDone => Sys2Proof.Machine.execTerminalTxDone s
  | .powerLoss => Sys2Proof.Machine.execPowerLoss s
  | .noteEnd => Sys2Proof.Machine.execNoteEnd s

end Sys2Proof.Machine
end

