-- ==== Sys2Proof/Machine/Step.lean ====
section
/-! DEFINITION. One step: the command at the front of the queue, or a millisecond of idling. -/

namespace Sys2Proof.Machine

/-- What a step does with no command waiting: the internal time base of a powered part advances by one millisecond
(log entry 2). -/
def idle (s : State) : State := if s.powered then s.setTimeBase (s.timeBase + 1) else s

/-- A step takes the command at the front of the queue and answers its outcome on the state with the queue's
rest; with no command the block idles. -/
def step (s : State) : Host.Outcome State Fault Refusal :=
  match s.pending with
  | [] => .next (idle s)
  | c :: rest => exec c (s.setPending rest)

/-- The state with the command a word spells put at the front of its queue; no word spells one, so it is the state
itself. -/
def State.withFetchWord (s : State) (nbits w : Nat) : State :=
  match decodeTableWord nbits w with
  | none => s
  | some c => s.setPending (c :: s.pending)

end Sys2Proof.Machine
end

