-- ==== Sys2Proof/Safety.lean ====
section
/-! DEFINITION. What stays within its bounds: the canonical forms of flash and slots, the limits of the queues and
lists, and the ranges of the registers, as the manual states them. -/

namespace Sys2Proof.Machine

/-- An entry of the Inspection Memory stands in one of the two slots of its key (R113). -/
def inOwnSlot (x : Nat × Sighting) : Bool := x.1 == primarySlot x.2.key || x.1 == alternateSlot x.2.key

/-- The slots of the Inspection Memory as a canonical list, every entry in a slot of its own (R113). -/
def slotsOk (slots : List (Nat × Sighting)) : Bool := risingKeys slots && slots.all inOwnSlot

/-- Flash and slots are canonical lists. -/
def State.canonical (s : State) : Bool :=
  Memory.wf s.tables.bank0.mem && Memory.wf s.tables.bank1.mem && risingKeys s.journal.slots
    && slotsOk s.memory.slots

/-- The Intake Queue holds at most 14 presentations (R6), and its tag counter is a tag (R5). -/
def State.intakeBounded (s : State) : Bool :=
  decide (s.intake.queue.length ≤ queueLimit) && decide (s.intake.tagCounter ≤ 255)

/-- The response queue holds at most 8 entries (R154), the notice queue at most 16, and the dropped count stops at
255 (R156). -/
def State.portBounded (s : State) : Bool :=
  decide (s.port.responses.length ≤ 8) && decide (s.port.notices.length ≤ noticeLimit)
    && decide (s.port.dropped ≤ 255)

/-- The write queue holds at most 8 entries (R133), and a producer is on the waiting list at most once (R132). -/
def State.journalBounded (s : State) : Bool :=
  decide (s.journal.queue.length ≤ writeQueueLimit) && decide s.journal.waiting.Nodup

/-- The resolution queue holds at most 4 entries (R124). -/
def State.resolutionsBounded (s : State) : Bool := decide (s.memory.resolutions.length ≤ resolutionLimit)

/-- A verdict that waits with consume YES finds the pending-consume list with a place (R89). -/
def State.consumeHasPlace (s : State) : Bool :=
  match s.evaluator with
  | .awaiting _ v _ => !v.consume || decide (s.memory.pendingList.length < 4)
  | .idle => true
  | .evaluating _ => true

/-- The pending-consume list never holds more than 4 entries (R120). -/
def State.pendingBounded (s : State) : Bool :=
  decide (s.memory.pendingList.length ≤ 4) && s.consumeHasPlace

/-- The departure history holds at most 24 entries (R29), the clock's minute is at most 1919 (R20), the debt at most
2 (R19) and the coach at most 32 (R33). -/
def State.positionBounded (s : State) : Bool :=
  decide (s.position.history.length ≤ historyLimit) && decide (s.position.clock.minute ≤ lastMinute)
    && decide (s.position.debt ≤ 2) && decide (s.position.coach ≤ lastCoach)

/-- The pattern queue holds at most 4 entries (R168). -/
def State.patternsBounded (s : State) : Bool := decide (s.annunciator.queue.length ≤ patternLimit)

/-- The settings lie in their ranges (R160). -/
def Settings.inRange (c : Settings) : Bool :=
  decide (c.window ≤ 240) && decide (1 ≤ c.burst) && decide (c.burst ≤ 16) && decide (c.volume ≤ 3)
    && decide (4 ≤ c.hold) && decide (c.hold ≤ 13) && decide (1 ≤ c.resume) && decide (c.resume < c.hold)

/-- At most one bank is ACTIVE (R55). -/
def TableStore.oneActive (t : TableStore) : Bool := !(t.bank0.role == .active && t.bank1.role == .active)

/-- The bounds every command keeps. -/
def State.bounded (s : State) : Bool :=
  s.canonical && s.intakeBounded && s.portBounded && s.journalBounded && s.resolutionsBounded
    && s.pendingBounded && s.positionBounded && s.patternsBounded && s.settings.inRange && s.tables.oneActive

/-- R5, R6: no tag is held twice, in the queue, in evaluation or on the pending-consume list, and a verdict that waits
carries the tag of its presentation. -/
def State.tagsDistinct (s : State) : Prop :=
  (heldTags s).Nodup ∧ ∀ c v w, s.evaluator = .awaiting c v w → v.tag = c.pres.tag

/-! ## What claims are said in -/

/-- A part with supply whose input place holds this frame, with the conditions of R153 that every frame has: fewer than
8 responses, the start-up recovery complete, no restart under way. -/
abbrev State.holdsFrame (s : State) (cls : Nat) (payload : List Byte) : Prop :=
  s.powered = true ∧ s.port.input = some { cls := cls, payload := payload } ∧ s.port.responses.length < 8
    ∧ s.journal.mode ≠ .recovering ∧ s.intake.causes.restarting = false

/-- The frame has left the input place, and its response is in the response queue with this reply (R154). -/
def State.answered (s : State) (cls : Nat) (r : Reply) : State :=
  { s with port := { s.port with input := none,
                                 responses := s.port.responses ++ [{ cls := cls, reply := some r }] } }

/-- The frame has left the input place, and its response is in the response queue, not yet produced (R154). -/
def State.awaited (s : State) (cls : Nat) : State :=
  { s with port := { s.port with input := none, responses := s.port.responses ++ [{ cls := cls, reply := none }] } }

/-- The first held response of a class has been produced (R154). -/
def State.filled (s : State) (cls : Nat) (r : Reply) : State :=
  { s with port := { s.port with responses := fillFirst cls r s.port.responses } }

/-- A notice has joined the notice queue, with the clock's time (R156). -/
def State.noticed (s : State) (b : NoticeBody) : State :=
  { s with port := s.port.addNotice { time := s.position.clock, body := b } }

/-- The Journal is in a mode in which entries are queued (R132, R150): OPEN, SHUTTING, or SHUT in the drain of a restart. -/
abbrev State.takesEntries (s : State) : Prop :=
  s.journal.mode = .opened ∨ s.journal.mode = .shutting ∨ (s.journal.mode = .shut ∧ s.intake.causes.restarting = true)

/-- An entry offered now is queued at once (R132): the Journal takes entries and is not FULL, the write queue has a place,
no producer waits, and a number after this one is left (R131). -/
abbrev State.placeFree (s : State) : Prop :=
  s.journal.full = none ∧ s.takesEntries
    ∧ s.journal.queue.length < 8 ∧ s.journal.waiting = [] ∧ s.journal.nextSeq < 4294967295

/-- An entry offered now is queued at once under the last number there is (R131). -/
abbrev State.lastPlace (s : State) : Prop :=
  s.journal.full = none ∧ s.takesEntries
    ∧ s.journal.queue.length < 8 ∧ s.journal.waiting = [] ∧ s.journal.nextSeq = 4294967295

/-- An entry offered now waits for a place (R132): the write queue is full, or a producer already waits. -/
abbrev State.noPlace (s : State) : Prop :=
  s.journal.full = none ∧ s.takesEntries
    ∧ (8 ≤ s.journal.queue.length ∨ s.journal.waiting ≠ [])

/-- An entry offered now is dropped (R132, R137, R148): the Journal is FULL, or SHUT outside a restart. -/
abbrev State.dropsEntries (s : State) : Prop :=
  s.journal.full ≠ none ∨ (s.journal.mode = .shut ∧ s.intake.causes.restarting = false)

/-- The notices of some presentations discarded from the queue (R13, R14). -/
def State.discardNotices (s : State) (why : DiscardReason) : List Notice :=
  s.intake.queue.map fun p =>
    { time := s.position.clock, body := .discarded why p.source (some p.tag) (some p.key) p.intakeTime }

/-- The tap results of the presentations that the reader sent, discarded from the queue (R13, R14). -/
def State.discardTaps (s : State) : List TapResult :=
  (s.intake.queue.filter fun p => p.source = .reader).map fun p => .notReadTag p.tag

/-- The notice queue after more notices, dropped and counted beyond 16 (R156). -/
def State.moreNotices (s : State) (l : List Notice) : TerminalPort :=
  { s.port with
    notices := (s.port.notices ++ l).take 16
    dropped := min 255 (s.port.dropped + (s.port.notices.length + l.length - 16)) }

/-- The report names a stop of the active bank (R25, R41). -/
abbrev State.hasStop (s : State) (b : Bank) (r : Report) : Prop :=
  s.tables.active = some b ∧ routePresent b r.route = true ∧ 1 ≤ r.index ∧ r.index ≤ routeLength b r.route

/-- The Journal with an entry at the tail of its write queue, under the next number and the clock's time (R130,
R131). -/
def State.entered (s : State) (run : Nat) (b : EntryBody) : State :=
  { s with journal :=
      { s.journal with
        queue := s.journal.queue ++ [{ seq := s.journal.nextSeq, time := s.position.clock, run := run, body := b }],
        nextSeq := s.journal.nextSeq + 1 } }

/-- The Journal FULL with its numbers exhausted, its JOURNAL_FULL notice placed (R131). -/
def State.exhausted (s : State) : State :=
  { s with journal := { s.journal with full := some .exhausted } }.noticed
    (.journalFull .exhausted 0 s.journal.headSector s.journal.mark s.journal.highest s.journal.highestAhead)

/-- What the Evaluator is told when the VERDICT entry it waits for is dropped: the verdict goes out UNJOURNALED, without a
number (R95). -/
def toldDropped (c : EvalContext) (v : Verdict) : Evaluator :=
  .awaiting c { v with seq := none, flags := { v.flags with unjournaled := true } } .dropped

/-- DEPTH after a change to a depth (R10). -/
def State.depthAt (s : State) (depth : Nat) : Bool :=
  if s.settings.hold ≤ depth then true
  else if depth ≤ s.settings.resume then false
  else s.intake.causes.depth

/-- A bank whose commit mark is valid, of a generation (R56). -/
abbrev Bank.committedAs (b : Bank) (g : Nat) : Prop :=
  b.mark = .programmed g true ∧ b.header.map (fun h => h.manifest.generation) = some g

/-- R57: roles that the start-up choice gives two banks: the one whose commit mark is valid is ACTIVE, of two the one of the
higher generation and bank 0 when they are equal, of none neither; a bank that is not ACTIVE is STAGING. -/
def startRoles (b0 b1 : Bank) (r0 r1 : BankRole) : Prop :=
  (∀ g, b0.committedAs g → (∀ h, ¬b1.committedAs h) → r0 = .active ∧ r1 = .staging)
  ∧ (∀ h, (∀ g, ¬b0.committedAs g) → b1.committedAs h → r0 = .staging ∧ r1 = .active)
  ∧ (∀ g h, b0.committedAs g → b1.committedAs h → h ≤ g → r0 = .active ∧ r1 = .staging)
  ∧ (∀ g h, b0.committedAs g → b1.committedAs h → g < h → r0 = .staging ∧ r1 = .active)
  ∧ ((∀ g, ¬b0.committedAs g) → (∀ h, ¬b1.committedAs h) → r0 = .staging ∧ r1 = .staging)

/-- The clock set to a time by a forward or a large backward step (R21), and the commit that begins when its scheduled
time is reached outside a restart (R71). -/
def State.clockSet (s : State) (t : Time) : State :=
  { s with
    position := { s.position with clock := t, valid := true, debt := 0 },
    tables :=
      if s.tables.engineNow = .scheduled ∧ s.intake.causes.restarting = false
          ∧ (s.tables.schedule.any fun u => u.atOrBefore t) = true then
        { s.tables with schedule := none, commitDue := some .scheduled }
      else s.tables }

end Sys2Proof.Machine
end

