-- ==== Sys2Proof/Certificates/Slice0/Obligations.lean ====
section
/-! DEFINITION. The statements for the provers, by the chapters of the manual. `settle` at the end of a next state is
what follows every command: the reader's transmitter and then the terminal's take what waits for them, which
ReaderTransmitterChooses and ArbiterChooses state. A record update names everything else the command changes. -/

open Sys2Proof Sys2Proof.Machine

/-! ## The machine -/

/-- A command for every control frame of 09 section 9.1, by rows of the table. -/
def Sys2Proof.Machine.dispatchRows : List Instr :=
  [.present, .intakeFlush, .time, .depart, .arrive, .switch, .coach, .runStart, .loadOpen, .loadRecord, .loadClose,
    .loadCommitNow, .loadCommitTime, .loadAbandon, .exportRead, .exportMark, .note, .shutdown, .config, .queryStatus,
    .queryDirectory, .queryHistory, .queryMemory, .restart]

/-- A step runs the command at the front of the queue on the state with the queue's rest. -/
def Obligations.StepRunsTheFrontCommand : Prop :=
  ∀ (c : Instr) (rest : List Instr) (s : State), s.pending = c :: rest → step s = exec c { s with pending := rest }

/-- The model's choice of log entries 2 and 32: with no command waiting, a powered part lets a millisecond pass, and a
part without supply changes nothing at any command but POWER_ON. -/
def Obligations.IdleAndUnpoweredSteps : Prop :=
  (∀ s : State, s.pending = [] → s.powered = true → step s = .next { s with timeBase := s.timeBase + 1 })
    ∧ (∀ s : State, s.pending = [] → s.powered = false → step s = .next s)
    ∧ ∀ (c : Instr) (s : State), s.powered = false → (∀ low, c ≠ .powerOn low) → exec c s = .next s

/-- The model's reading of log entries 1 and 32: every command completes from every state, also where its event cannot
happen or the part has no supply, and leaves the queue of commands to the step. -/
def Obligations.EveryCommandCompletes : Prop :=
  ∀ (c : Instr) (s : State), ∃ t, exec c s = .next t ∧ t.pending = s.pending

/-- The state after reset is within every bound of `State.bounded`. -/
def Obligations.ResetIsBounded : Prop := State.reset.bounded = true

/-- Every step keeps the bounds: canonical flash and slots with every entry of the memory in a slot of its key (R113), the
limits of the Intake Queue (R6), the response and notice
queues (R154, R156), the write queue and waiting list (R133, R132), the resolution queue (R124), the
pending-consume list (R120), the history (R29), the pattern queue (R168), the clock and the settings in their ranges
(R20, R160), and at most one ACTIVE bank (R55). -/
def Obligations.StepKeepsBounds : Prop :=
  ∀ s t : State, s.bounded = true → step s = .next t → t.bounded = true

/-- R5, R6: every step keeps the tags held distinct: a presentation is in at most one of the queue, the evaluation and the
pending-consume list, under a tag of its own. -/
def Obligations.TagsStayDistinct : Prop :=
  ∀ s t : State, s.bounded = true → s.tagsDistinct → step s = .next t → t.tagsDistinct

/-- R153: the owner of a row cannot take a frame: the Position Unit while an entry waits in its outgoing place; the Table
Store during a record program or a content check, or while an entry waits; the Journal while an entry waits in its
control place. The Intake Queue and the port always can. -/
def Sys2Proof.Machine.ownerBusy (c : Instr) (s : State) : Prop :=
  (c ∈ [Instr.time, .depart, .arrive, .switch, .coach, .runStart] ∧ s.position.outgoing ≠ none)
  ∨ (c ∈ [Instr.loadOpen, .loadRecord, .loadClose, .loadCommitNow, .loadCommitTime, .loadAbandon]
    ∧ (s.tables.outgoing ≠ none ∨ s.tables.checking = true
      ∨ ∃ n position rs present, s.tables.op = some (.recordProgram n position rs present)))
  ∨ (c ∈ [Instr.exportRead, .exportMark, .note, .shutdown] ∧ s.journal.control ≠ none)

/-- R153: a control frame stays in the input place, and nothing changes, while 8 responses wait, while the start-up
recovery is not complete, while a restart is under way, or while its owner cannot take a frame. -/
def Obligations.FramesWaitAtDispatch : Prop :=
  ∀ c ∈ dispatchRows, ∀ s : State,
    (8 ≤ s.port.responses.length ∨ s.journal.mode = .recovering ∨ s.intake.causes.restarting = true
      ∨ ownerBusy c s) →
    exec c s = .next s

/-- R172, R151: a frame as sent, behind bytes that hold no sync byte and before any others, is the frame that a port
receives, with its class, its payload and the bytes after it. -/
def Obligations.FrameRoundTrip : Prop :=
  ∀ (cls : Nat) (junk payload rest : List Byte), cls < 256 → payload.length ≤ 1024 → syncByte ∉ junk →
    receive (junk ++ frameBytes cls payload ++ rest) = .frame cls payload rest

/-! ## Supply (chapter 08, 04) -/

/-- POWER_ON (R18, R19, R24, R30, R33, R35, R76, R127, R144, R171) of a part without supply: every block at its power-on
values, SAFE alone among the hold causes when the line is asserted, the first reader frame going out, and the flash
kept; and those values as `State.reset` has them with the line deasserted. The flash of `State.reset` is the model's
choice (log entries 5 and 6). -/
def Obligations.PowerOnValues : Prop :=
  (State.reset.settings = { window := 30, policy := .strict, burst := 4, volume := 2, hold := 10, resume := 5 }
    ∧ State.reset.intake
        = { queue := [], tagCounter := 0,
            causes := { depth := false, safe := false, shutdown := false, restarting := false } }
    ∧ State.reset.reader.asSent = false ∧ State.reset.reader.taps = [] ∧ State.reset.reader.sending = some .resume
    ∧ State.reset.position.clock = { day := 0, minute := 0 } ∧ State.reset.position.valid = false
    ∧ State.reset.position.debt = 0 ∧ State.reset.position.pos = .unknown ∧ State.reset.position.route = none
    ∧ State.reset.position.length = none ∧ State.reset.position.history = [] ∧ State.reset.position.wrapped = false
    ∧ State.reset.position.coach = 0 ∧ State.reset.position.demand = 0 ∧ State.reset.position.run = 0
    ∧ State.reset.tables.engine = .idle ∧ State.reset.tables.schedule = none
    ∧ State.reset.tables.bank0.pins = 0 ∧ State.reset.tables.bank1.pins = 0
    ∧ State.reset.evaluator = .idle ∧ State.reset.memory.slots = [] ∧ State.reset.memory.pendingList = []
    ∧ State.reset.memory.resolutions = [] ∧ State.reset.journal.mode = .recovering
    ∧ State.reset.journal.full = none ∧ State.reset.journal.queue = [] ∧ State.reset.journal.waiting = []
    ∧ State.reset.port = TerminalPort.initial ∧ State.reset.annunciator.playing = none
    ∧ State.reset.annunciator.queue = [])
  ∧ ∀ (low : Bool) (s : State), s.powered = false → ∃ t, exec (.powerOn low) s = .next t
    ∧ t = { State.reset with
              supplyLow := low
              reader := { rx := [], asSent := low, taps := [], sending := some (if low then .hold else .resume) }
              intake := { queue := [], tagCounter := 0,
                          causes := { depth := false, safe := low, shutdown := false, restarting := false } }
              tables := t.tables
              journal := { State.reset.journal with slots := s.journal.slots }
              free := s.free
              pending := s.pending }
    ∧ t.tables = { TableStore.initial with
                     bank0 := { s.tables.bank0 with role := t.tables.bank0.role, pins := 0 }
                     bank1 := { s.tables.bank1 with role := t.tables.bank1.role, pins := 0 } }

/-- R57: at power-on the one bank whose commit mark is valid is ACTIVE; of two, the one of the higher generation, and bank
0 when they are equal; of none, none. A bank that is not ACTIVE is STAGING. -/
def Obligations.StartupChoice : Prop :=
  ∀ (low : Bool) (s t : State), s.powered = false → exec (.powerOn low) s = .next t →
    startRoles s.tables.bank0 s.tables.bank1 t.tables.bank0.role t.tables.bank1.role

/-- POWER_LOSS (R75, R133, R150): with nothing in flight in either flash, both arrays stay as they are; that everything
else then stands at its power-on values is the model's choice (log entry 32). With an entry being programmed, every slot
of that entry is torn and every other slot of the ring is as it was; with a header being programmed, the bank has no
header and an erased commit mark, which is the model's choice (log entry 14: R56 and R75 say only that no valid mark is
left); with a commit mark being programmed, the bank's bytes and header are as they were. What a cut erase or record
program leaves is log entry 14's, and not stated here. -/
def Obligations.PowerLossKeepsFlash : Prop :=
  (∀ s : State, s.powered = true → s.tables.op = none → s.journal.op = none → ∃ t, exec .powerLoss s = .next t
    ∧ t = { State.reset with
              powered := false
              supplyLow := s.supplyLow
              reader := { rx := [], asSent := s.supplyLow, taps := [], sending := none }
              intake := { queue := [], tagCounter := 0,
                          causes := { depth := false, safe := s.supplyLow, shutdown := false, restarting := false } }
              tables := t.tables
              journal := { State.reset.journal with slots := s.journal.slots }
              free := t.free
              pending := s.pending }
    ∧ t.tables = { TableStore.initial with
                     bank0 := { s.tables.bank0 with role := t.tables.bank0.role, pins := 0 }
                     bank1 := { s.tables.bank1 with role := t.tables.bank1.role, pins := 0 } })
  ∧ (∀ (n : Nat) (s : State), s.powered = true → n ≤ 1 → s.tables.op = some (.headerProgram n) →
    ∃ t, exec .powerLoss s = .next t ∧ (t.tables.bank n).mem = (s.tables.bank n).mem
      ∧ (t.tables.bank n).header = none ∧ (t.tables.bank n).mark = .erased
      ∧ (t.tables.bank (1 - n)).mem = (s.tables.bank (1 - n)).mem
      ∧ (t.tables.bank (1 - n)).header = (s.tables.bank (1 - n)).header
      ∧ (t.tables.bank (1 - n)).mark = (s.tables.bank (1 - n)).mark)
  ∧ (∀ (n : Nat) (kind : CommitKind) (s : State), s.powered = true → n ≤ 1 →
    s.tables.op = some (.markProgram n kind) →
    ∃ t, exec .powerLoss s = .next t ∧ (t.tables.bank n).mem = (s.tables.bank n).mem
      ∧ (t.tables.bank n).header = (s.tables.bank n).header
      ∧ (t.tables.bank (1 - n)).mem = (s.tables.bank (1 - n)).mem
      ∧ (t.tables.bank (1 - n)).header = (s.tables.bank (1 - n)).header
      ∧ (t.tables.bank (1 - n)).mark = (s.tables.bank (1 - n)).mark)
  ∧ ∀ (s : State) (e : Entry) (rest : List Entry), s.powered = true → s.journal.op = some .program →
    s.journal.queue = e :: rest → risingKeys s.journal.slots = true → ∃ t, exec .powerLoss s = .next t
      ∧ ∀ a, lookupAt t.journal.slots a
        = if s.journal.headSector * 64 + s.journal.headSlot ≤ a
              ∧ a < s.journal.headSector * 64 + s.journal.headSlot + entrySlots e.body then some .torn
          else lookupAt s.journal.slots a

/-- R149, R15: the supply-low line asserted puts SAFE among the hold causes with a SUPPLY_SAFE notice; deasserted, it
takes SAFE out with a SUPPLY_NORMAL notice. That this notice stands before the HOLD_STATE of a flow frame that follows is
the model's choice (log entry 39). -/
def Obligations.SupplyLowLine : Prop :=
  ∀ s : State, s.powered = true →
    (s.supplyLow = false → exec .supplyLowAsserted s = .next (settle
      { s.noticed .supplySafe with
        supplyLow := true
        intake := { s.intake with causes := { s.intake.causes with safe := true } } }))
    ∧ (s.supplyLow = true → exec .supplyLowDeasserted s = .next (settle
      { s.noticed .supplyNormal with
        supplyLow := false
        intake := { s.intake with causes := { s.intake.causes with safe := false } } }))

/-! ## The reader link and the Intake Queue (chapter 01) -/

/-- R4: the record of an admitted presentation, at the tail of the queue: its intake time, its tag, its count and count
clamped, its attestation, and the fields recorded as received; and the flag that reports count clamped. -/
def Obligations.RecordCompleted : Prop :=
  (∀ (src : Source) (p : PresPayload) (s : State), ∃ r, (enrol src p s).intake.queue = s.intake.queue ++ [r]
    ∧ r.source = src ∧ r.tag = nextTag s ∧ r.intakeTime = s.position.clock
    ∧ (p.count = 0 → r.count = 1 ∧ r.clamped = true) ∧ (9 < p.count → r.count = 9 ∧ r.clamped = true)
    ∧ (1 ≤ p.count → p.count ≤ 9 → r.count = p.count ∧ r.clamped = false)
    ∧ (p.medium = .paper → r.attested = false) ∧ (p.medium ≠ .paper → r.attested = p.attested)
    ∧ r.medium = p.medium ∧ r.key = p.key ∧ r.product = p.product ∧ r.validStart = p.validStart
    ∧ r.validEnd = p.validEnd ∧ r.origin = p.origin ∧ r.destination = p.destination ∧ r.zones = p.zones
    ∧ r.category = p.category ∧ r.trips = p.trips ∧ r.upgrades = p.upgrades)
    ∧ ∀ (b : Option Bank) (c : EvalContext) (m : MemoryView), (workChecks b c m).1.flags.countClamped = c.pres.clamped

/-- R5: the tag given is held by nobody, and it is the first such tag from the counter upward modulo 256. -/
def Obligations.TagIsFirstFree : Prop :=
  ∀ (counter : Nat) (held : List Nat), counter ≤ 255 → held.length ≤ 18 → ∃ n, n < 256
    ∧ freeTag counter held = (counter + n) % 256 ∧ (counter + n) % 256 ∉ held ∧ ∀ i < n, (counter + i) % 256 ∈ held

/-- PRESENTATION (R1, R3, R6, R8): a well-formed presentation that comes from the reader while the depth is below 14 is
recorded at the tail under the next tag, and the flow-control step of R10 follows. One that is not well formed, or
comes at a depth of 14, leaves the queue as it was; the reader gets NOT_READ with no tag, and a DISCARDED notice says
why. -/
def Obligations.ReaderPresentationTaken : Prop :=
  ∀ (bytes payload rest : List Byte) (s : State), s.powered = true →
    wholeFrame [1] (s.reader.rx ++ bytes) = some (1, payload, rest) →
    (readPresentation payload = none → exec (.presentation bytes) s = .next (settle
      { s.noticed (.discarded .malformed .reader none (payloadKey payload) s.position.clock) with
        reader := { s.reader with rx := rest, taps := s.reader.taps ++ [.notRead] } }))
    ∧ ∀ p, readPresentation payload = some p →
      (s.intake.queue.length < 14 → exec (.presentation bytes) s = .next (settle
        { s with
          reader := { s.reader with rx := rest }
          intake :=
            { queue := s.intake.queue ++ [recordOf .reader (nextTag s) s.position.clock p]
              tagCounter := (nextTag s + 1) % 256
              causes := { s.intake.causes with depth := s.depthAt (s.intake.queue.length + 1) } } }))
      ∧ (14 ≤ s.intake.queue.length → exec (.presentation bytes) s = .next (settle
        { s.noticed (.discarded .queueFull .reader none (some p.key) s.position.clock) with
          reader := { s.reader with rx := rest, taps := s.reader.taps ++ [.notRead] } }))

/-- PRESENT (R2, R9): a keyed presentation is admitted with OK and its tag, or answered BUSY for want of room or with
intake closed, or answered BAD_ARG when it is not well formed. -/
def Obligations.KeyedPresentationAnswered : Prop :=
  ∀ (payload : List Byte) (s : State), s.holdsFrame 16 payload →
    (readPresentation payload = none → exec .present s = .next (settle (s.answered 16 (Reply.bare .badArg))))
    ∧ ∀ p, readPresentation payload = some p →
      (14 ≤ s.intake.queue.length ∨ s.intake.causes.safe = true ∨ s.intake.causes.shutdown = true →
        exec .present s = .next (settle (s.answered 16 (Reply.bare .busy))))
      ∧ (s.intake.queue.length < 14 → s.intake.causes.safe = false → s.intake.causes.shutdown = false →
        exec .present s = .next (settle
          { s.answered 16 (Reply.with .ok [BitVec.ofNat 8 (nextTag s)]) with
            intake :=
              { queue := s.intake.queue ++ [recordOf .keyed (nextTag s) s.position.clock p]
                tagCounter := (nextTag s + 1) % 256
                causes := { s.intake.causes with depth := s.depthAt (s.intake.queue.length + 1) } } }))

/-- INTAKE_FLUSH (R13): every presentation leaves the queue from head to tail, each with a DISCARDED notice (dropped and
counted beyond 16 by R156), and with NOT_READ when the reader sent it; the response carries their number, and DEPTH
leaves the hold causes. -/
def Obligations.FlushEmptiesTheQueue : Prop :=
  ∀ s : State, s.holdsFrame 17 [] → s.bounded = true →
    exec .intakeFlush s = .next (settle
      { s with
        intake := { s.intake with queue := [], causes := { s.intake.causes with depth := false } }
        reader := { s.reader with taps := s.reader.taps ++ s.discardTaps }
        port :=
          { s.moreNotices (s.discardNotices .flush) with
            input := none
            responses := s.port.responses
              ++ [{ cls := 17, reply := some (Reply.with .ok [BitVec.ofNat 8 s.intake.queue.length]) }] } })

/-- FRAME_CHECK_FAILED (R151) and CONTROL_FRAME_RECEIVED (R152): a frame whose check fails, or whose class the link does
not carry, leaves no trace but the bytes that are hunted next; a control frame goes into an empty input place, and is
lost when the place is occupied. -/
def Obligations.FramesReceivedOrLost : Prop :=
  ∀ (bytes rest : List Byte) (cls : Nat) (payload : List Byte) (s : State), s.powered = true →
    (receive (s.reader.rx ++ bytes) = .failed rest →
      exec (.frameCheckFailed .reader bytes) s = .next (settle { s with reader := { s.reader with rx := hunt rest } }))
    ∧ (receive (s.reader.rx ++ bytes) = .frame cls payload rest → cls ≠ 1 → cls ≠ 2 →
      exec (.frameCheckFailed .reader bytes) s = .next (settle { s with reader := { s.reader with rx := rest } }))
    ∧ (receive (s.port.rx ++ bytes) = .failed rest →
      exec (.frameCheckFailed .terminal bytes) s = .next (settle { s with port := { s.port with rx := hunt rest } }))
    ∧ (receive (s.port.rx ++ bytes) = .frame cls payload rest →
      (cls ∉ classesToward .terminal → exec (.frameCheckFailed .terminal bytes) s = .next (settle
        { s with port := { s.port with rx := rest } }))
      ∧ (cls ∈ classesToward .terminal →
        (s.port.input = none → exec (.controlFrameReceived bytes) s = .next (settle
          { s with port := { s.port with rx := rest, input := some { cls := cls, payload := payload } } }))
        ∧ (s.port.input ≠ none → exec (.controlFrameReceived bytes) s = .next (settle
          { s with port := { s.port with rx := rest } }))))

/-- READER_TX_DONE (R11): the freed transmitter sends HOLD or RESUME with its HOLD_STATE notice when the wanted state is
not the state as sent, else the oldest tap result, else nothing. That the state as sent changes, that its notice is
placed and that a tap result leaves when the frame begins is the model's reading (log entries 7 and 8). -/
def Obligations.ReaderTransmitterChooses : Prop :=
  ∀ (s : State) (wanted : Bool), s.powered = true → s.reader.sending ≠ none →
    wanted = (s.intake.causes.depth || s.intake.causes.safe || s.intake.causes.shutdown || s.intake.causes.restarting) →
    (wanted ≠ s.reader.asSent → exec .readerTxDone s = .next (terminalTransmit
      { s.noticed (.holdState wanted s.intake.causes) with
        reader := { s.reader with asSent := wanted, sending := some (if wanted then .hold else .resume) } }))
    ∧ (∀ t rest, wanted = s.reader.asSent → s.reader.taps = t :: rest →
      exec .readerTxDone s = .next (terminalTransmit
        { s with reader := { s.reader with taps := rest, sending := some (.tap t) } }))
    ∧ (wanted = s.reader.asSent → s.reader.taps = [] →
      exec .readerTxDone s = .next (terminalTransmit { s with reader := { s.reader with sending := none } }))

/-! ## The clock and the position (chapter 02) -/

/-- R21 for the time of every time-bearing frame, and TIME (R22, R23, R71): the three cases of a well-formed time, TIME
being answered OK with the position state, the current route and the clock value that stand afterwards. -/
def Obligations.TimeFrameApplied : Prop :=
  ∀ (t c : Time) (s : State), s.position.clock = c →
    ((c.atOrBefore t = true → applyTime t s = s.clockSet t)
    ∧ (t.day = c.day → t.minute < c.minute → c.minute ≤ t.minute + 2 →
      applyTime t s = { s with position := { s.position with valid := true, debt := c.minute - t.minute } })
    ∧ (t.before c = true → ¬(t.day = c.day ∧ c.minute ≤ t.minute + 2) →
      applyTime t s
        = { ((s.clockSet t).noticed (.clockCorrected c t s.position.history.length)) with
            position := { (s.clockSet t).position with history := [], wrapped := false } }))
    ∧ ∀ payload : List Byte, s.holdsFrame 32 payload → s.position.outgoing = none → readTime payload = some t →
      exec .time s = .next (settle
        { s with
          position := (applyTime t s).position
          tables := (applyTime t s).tables
          port :=
            { (applyTime t s).port with
              input := none
              responses := s.port.responses
                ++ [{ cls := 32, reply := some (Reply.with .ok (timeContent (applyTime t s))) }] } })

/-- MINUTE_TICK (R20, R71): a debt absorbs the tick; a clock below 1919 goes on by a minute, and a commit whose time is
reached begins; a clock at 1919 holds. The next tick is 60 s of the internal time base later. That the time base moves to
the tick when it lies ahead is the model's choice (log entry 3). -/
def Obligations.MinuteTickMovesTheClock : Prop :=
  ∀ (s w : State), s.powered = true →
    w = { s with timeBase := max s.timeBase s.nextTick, nextTick := s.nextTick + 60000 } →
    (0 < s.position.debt → exec .minuteTick s = .next (settle
      { w with position := { s.position with debt := s.position.debt - 1 } }))
    ∧ (s.position.debt = 0 → s.position.clock.minute < 1919 → exec .minuteTick s = .next (settle
      { w with
        position := { s.position with clock := { s.position.clock with minute := s.position.clock.minute + 1 } }
        tables := (w.clockSet { s.position.clock with minute := s.position.clock.minute + 1 }).tables }))
    ∧ (s.position.debt = 0 → s.position.clock.minute = 1919 → exec .minuteTick s = .next (settle w))

/-- DEPART (R22, R24, R26, R29, R31, R131): from each state that the table of R26 accepts, and after the frame's time
has been applied, the train is between the stop and the next and the departure is the newest of the history. The DEPART
entry is queued and the frame answered; or the entry is dropped and the frame answered; or the entry waits in the
outgoing place with the response held. An entry that takes the last number leaves the Journal FULL, EXHAUSTED (R131).
That the content of a held response is fixed at the dispatch, and that the response of a dropped entry carries no mark,
is the model's reading (log entries 9 and 49). -/
def Obligations.DepartMovesTheTrain : Prop :=
  ∀ (payload content : List Byte) (r : Report) (b : Bank) (st : StopRec) (body : EntryBody) (s w m : State),
    s.holdsFrame 33 payload → s.position.outgoing = none → readReport payload = some r → s.hasStop b r →
    r.index < routeLength b r.route → stopAt b r.route r.index = some st →
    (s.position.pos = .unknown ∨ (s.position.route = some r.route
      ∧ ((∃ j, s.position.pos = .atStop j ∧ j ≤ r.index) ∨ ∃ j, s.position.pos = .between j ∧ j < r.index))) →
    w = applyTime r.time s →
    content = posBytes (.between r.index) ++ be1 r.route ++ timeBytes w.position.clock →
    body = .depart r.route r.index st.code w.position.clock →
    m = { w.awaited 33 with
          position :=
            { w.position with
              pos := .between r.index
              route := some r.route
              length := if s.position.pos = .unknown then some (routeLength b r.route) else s.position.length
              history := (if w.position.history.length < 24 then w.position.history else w.position.history.drop 1)
                ++ [{ route := r.route, index := r.index, code := st.code, auth := st.auth, zone := st.zone,
                      time := w.position.clock }]
              wrapped := w.position.wrapped || decide (24 ≤ w.position.history.length) } } →
    (s.placeFree → exec .depart s = .next (settle ((m.entered s.position.run body).filled 33 (Reply.with .ok content))))
    ∧ (s.dropsEntries → exec .depart s = .next (settle (m.filled 33 (Reply.with .ok content))))
    ∧ (s.noPlace → .position ∉ s.journal.waiting → exec .depart s = .next (settle
      { m with
        position := { m.position with outgoing := some { body := body, cls := 33, content := content } }
        journal := { s.journal with waiting := s.journal.waiting ++ [.position] } }))
    ∧ (s.lastPlace → exec .depart s = .next (settle
      ((m.entered s.position.run body).filled 33 (Reply.with .ok content)).exhausted))

/-- ARRIVE (R22, R24, R27) and SWITCH (R22, R24, R28): after the frame's time has been applied, the train stands at the
stop and the frame is answered OK: an ARRIVE from each state that the table of R27 accepts, a SWITCH from every
state. Nothing is pushed into the history, and a SWITCH sets the current route and its length in every state. -/
def Obligations.ArriveAndSwitchStandAtTheStop : Prop :=
  ∀ (payload content : List Byte) (r : Report) (b : Bank) (s w : State), s.position.outgoing = none →
    readReport payload = some r → s.hasStop b r → w = applyTime r.time s →
    content = posBytes (.atStop r.index) ++ be1 r.route ++ timeBytes w.position.clock →
    (s.holdsFrame 34 payload →
      (s.position.pos = .unknown ∨ (s.position.route = some r.route
        ∧ ((∃ j, s.position.pos = .atStop j ∧ j < r.index) ∨ ∃ j, s.position.pos = .between j ∧ j + 1 ≤ r.index))) →
      exec .arrive s = .next (settle
        { w.answered 34 (Reply.with .ok content) with
          position :=
            { w.position with
              pos := .atStop r.index
              route := some r.route
              length := if s.position.pos = .unknown then some (routeLength b r.route) else s.position.length } }))
    ∧ (s.holdsFrame 35 payload → exec .switch s = .next (settle
        { w.answered 35 (Reply.with .ok content) with
          position :=
            { w.position with
              pos := .atStop r.index, route := some r.route, length := some (routeLength b r.route) } }))

/-- R22, R25, R26, R27: a time-bearing frame that is not well formed is answered BAD_ARG with its time not applied; a
report that names no stop of the active bank, or a DEPART from the last, is answered BAD_ARG with its time applied;
a DEPART or ARRIVE that names a stop the state does not allow is answered BAD_STATE with its time applied. -/
def Obligations.PositionFramesRefused : Prop :=
  (∀ (payload : List Byte) (s : State), s.holdsFrame 32 payload → s.position.outgoing = none →
    readTime payload = none →
    exec .time s = .next (settle (s.answered 32 (Reply.with .badArg (timeContent s)))))
  ∧ ∀ x ∈ [(Instr.depart, 33), (.arrive, 34), (.switch, 35)], ∀ (payload : List Byte) (s : State),
    s.holdsFrame x.2 payload → s.position.outgoing = none →
    (readReport payload = none →
      exec x.1 s = .next (settle (s.answered x.2 (Reply.with .badArg (timeContent s)))))
    ∧ ∀ (r : Report) (w : State), readReport payload = some r → w = applyTime r.time s →
      (((∀ b, ¬s.hasStop b r) ∨ (x.2 = 33 ∧ ∃ b, s.tables.active = some b ∧ r.index = routeLength b r.route)) →
        exec x.1 s = .next (settle (w.answered x.2 (Reply.with .badArg (timeContent w)))))
      ∧ ∀ b, s.hasStop b r → (x.2 = 33 → r.index < routeLength b r.route) → x.2 ≠ 35 → s.position.pos ≠ .unknown →
        (s.position.route ≠ some r.route
          ∨ (∃ j, s.position.pos = .atStop j ∧ (if x.2 = 33 then r.index < j else r.index ≤ j))
          ∨ ∃ j, s.position.pos = .between j ∧ r.index ≤ j) →
        exec x.1 s = .next (settle (w.answered x.2 (Reply.with .badState (timeContent w))))

/-- COACH (R33): a coach of 0 to 32 is set with the demand word; a greater one is answered BAD_ARG and sets neither. -/
def Obligations.CoachAndDemandSet : Prop :=
  ∀ (payload : List Byte) (coach : Nat) (demand : Bits16) (s : State), s.holdsFrame 36 payload →
    s.position.outgoing = none → readCoach payload = some (coach, demand) →
    (coach ≤ 32 → exec .coach s = .next (settle
      { s.answered 36 (Reply.bare .ok) with position := { s.position with coach := coach, demand := demand } }))
    ∧ (32 < coach → exec .coach s = .next (settle (s.answered 36 (Reply.bare .badArg))))

/-- RUN_START (R14, R30, R31, R34, R125, R131): the run number is set, the history cleared, the position UNKNOWN, the
queue emptied with its notices and tap results; the memory and the pending-consume list are cleared with CLEARED notices
at once, or their clearing is deferred to the end of the evaluation in flight; the RUN_START entry is queued, dropped or
waits, and leaves the Journal FULL, EXHAUSTED, when it takes the last number. The notice order, and that the response of
a dropped entry carries no mark, are the model's (log entries 21, 23, 46 and 49). -/
def Obligations.RunStartBeginsARun : Prop :=
  ∀ (payload : List Byte) (run : Nat) (cleared : List Notice) (s m : State), s.holdsFrame 37 payload →
    s.position.outgoing = none → s.bounded = true → readRunStart payload = some run → run ≠ 0 →
    cleared = (if s.evaluator = .idle then s.memory.pendingList.map fun p =>
      { time := s.position.clock, body := .consumeResolved p.tag p.key .cleared none none } else []) →
    m = { s with
          position := { s.position with run := run, history := [], wrapped := false, pos := .unknown, route := none,
                                        length := none }
          intake := { s.intake with queue := [], causes := { s.intake.causes with depth := false } }
          reader := { s.reader with taps := s.reader.taps ++ s.discardTaps }
          memory := if s.evaluator = .idle then
              { s.memory with slots := [], pendingList := [], clearDeferred := false }
            else { s.memory with clearDeferred := true }
          port := { s.moreNotices (s.discardNotices .runStart ++ cleared) with
                    input := none, responses := s.port.responses ++ [{ cls := 37, reply := none }] } } →
    (s.placeFree → exec .runStart s = .next (settle ((m.entered run .runStart).filled 37 (Reply.bare .ok))))
    ∧ (s.dropsEntries → exec .runStart s = .next (settle (m.filled 37 (Reply.bare .ok))))
    ∧ (s.noPlace → .position ∉ s.journal.waiting → exec .runStart s = .next (settle
      { m with
        position := { m.position with outgoing := some { body := .runStart, cls := 37, content := [] } }
        journal := { s.journal with waiting := s.journal.waiting ++ [.position] } }))
    ∧ (s.lastPlace → exec .runStart s = .next (settle
      ((m.entered run .runStart).filled 37 (Reply.bare .ok)).exhausted))

/-! ## The tables (chapters 03 and 04) -/

/-- LOAD_OPEN (R59, R64): outside IDLE one whose codes are all listed is answered BAD_STATE, without content (log entry
26); in IDLE a manifest that fails a check is refused with that check and the position concerned (of two declarations
that repeat each other, the later's: log entry 50); an accepted one makes the load engine OPENING on the bank that is
not ACTIVE, with nothing received, and its response is held. A code that is not listed is MalformedPayloadsAnswered's.
-/
def Obligations.LoadOpenTaken : Prop :=
  ∀ (payload : List Byte) (raw : RawManifest) (s : State), s.holdsFrame 48 payload → tablesReady s = true →
    readManifest payload = some raw →
    (s.tables.engineNow ≠ .idle → (∀ x ∈ raw.segs, 1 ≤ x.kind ∧ x.kind ≤ 6 ∧ x.placement ≤ 1) →
      exec .loadOpen s = .next (settle (s.answered 48 (Reply.bare .badState))))
    ∧ (∀ e, s.tables.engineNow = .idle → openManifest s.tables.activeGeneration raw = .error e →
      exec .loadOpen s = .next (settle (s.answered 48 (Reply.with e.status (be1 e.check ++ [e.position])))))
    ∧ ∀ m d, s.tables.engineNow = .idle → openManifest s.tables.activeGeneration raw = .ok (m, d) →
      exec .loadOpen s = .next (settle
        { s.awaited 48 with
          tables :=
            { s.tables with
              engine := .opening
              load := some
                { target := if s.tables.activeIndex = some 0 then 1 else 0
                  manifest := m, directory := d, received := d.map fun _ => [] }
              erased := 0 } })

/-- R59 to R63: an accepted manifest has a generation above the active one, and its directory has one entry for each
segment in manifest order; every segment lies within the 256 blocks, no two share a block, a fixed segment stands at
the block it names, and a floating one is aligned by its length. -/
def Obligations.DirectoryFits : Prop :=
  ∀ (g : Nat) (raw : RawManifest) (m : Manifest) (d : List DirEntry), openManifest g raw = .ok (m, d) →
    g < m.generation ∧ m.generation = raw.generation ∧ d.length = m.segs.length
    ∧ (∀ e ∈ d, 1 ≤ e.length ∧ e.first + e.length ≤ 256)
    ∧ d.Pairwise (fun a b => a.first + a.length ≤ b.first ∨ b.first + b.length ≤ a.first)
    ∧ ∀ (i : Nat) (e : DirEntry) (x : SegDecl), d[i]? = some e → m.segs[i]? = some x →
      e.kind = x.kind ∧ e.auth = x.auth ∧ e.count = x.count
      ∧ e.length = (x.count * recordSize x.kind x.count + 255) / 256
      ∧ (∀ b, x.fixedAt = some b → e.first = b)
      ∧ (x.fixedAt = none → (2 ≤ e.length → e.first % 2 = 0) ∧ (3 ≤ e.length → e.first % 4 = 0)
          ∧ (5 ≤ e.length → e.first % 8 = 0) ∧ (9 ≤ e.length → e.first % 16 = 0))

/-- STAGING_ERASE_START, TABLE_SECTOR_ERASE_DONE, HEADER_PROGRAM_DONE (R65, R66, R75): the sectors of the target bank are
erased one after another, the header area with sector 0, no erase starting in SAFE or in a restart; after sector 15
the header is programmed; with the header the load engine is LOADING and the LOAD_OPEN is answered OK with the target
bank, the generation and the directory. -/
def Obligations.StagingEraseProceeds : Prop :=
  ∀ (l : Load) (s : State), s.powered = true → s.tables.load = some l →
    (s.tables.engine = .opening → s.tables.op = none → s.tables.erased < 16 →
      (s.tables.bank l.target).role = .staging → (s.tables.bank l.target).pins = 0 →
      s.intake.causes.safe = false → s.intake.causes.restarting = false →
      exec .stagingEraseStart s = .next (settle
        { s with tables := { s.tables with op := some (.eraseSector l.target s.tables.erased) } }))
    ∧ (∀ (k : Nat) (T : TableStore), s.tables.engine = .opening → s.tables.op = some (.eraseSector l.target k) →
      s.tables.erased = k → k < 16 → s.tables.abandoning = false → (s.tables.bank l.target).role = .staging →
      (s.tables.bank l.target).pins = 0 →
      T = { s.tables.setBank l.target
              { s.tables.bank l.target with
                mem := dropRange (s.tables.bank l.target).mem (k * 4096) ((k + 1) * 4096)
                header := if k = 0 then none else (s.tables.bank l.target).header
                mark := if k = 0 then .erased else (s.tables.bank l.target).mark } with
            erased := k + 1, op := none } →
      exec .tableSectorEraseDone s = .next (settle
        { s with
          tables :=
            if s.intake.causes.restarting = true then T
            else if k = 15 then { T with op := some (.headerProgram l.target) }
            else if s.intake.causes.safe = true then T
            else { T with op := some (.eraseSector l.target (k + 1)) } }))
    ∧ (s.tables.op = some (.headerProgram l.target) → s.tables.abandoning = false →
      exec .headerProgramDone s = .next (settle
        ({ s with
          tables :=
            { s.tables.setBank l.target
                { s.tables.bank l.target with
                  header := some { manifest := l.manifest, directory := l.directory }, mark := .erased } with
              op := none, engine := .loading } }.filled 48
          (Reply.with .ok (be1 l.target ++ be4 l.manifest.generation ++ be1 l.directory.length
            ++ l.directory.flatMap dirEntryBytes)))))

/-- LOAD_RECORD and RECORD_PROGRAM_DONE (R67, R68): BUSY in OPENING, BAD_STATE elsewhere outside LOADING; in LOADING a
frame that R67 refuses is answered BAD_ARG, one in conflict CONFLICT with its lowest such index (compared in the bits
that are read, log entry 45), one with nothing new OK at once; else its new records are programmed, and at the
completion they stand in their places, are received, and the frame is answered OK with their number and the number
already present. -/
def Obligations.RecordsLoaded : Prop :=
  (∀ (payload : List Byte) (f : RecordFrame) (s : State), s.holdsFrame 49 payload → tablesReady s = true →
    readRecordFrame payload = some f →
    (s.tables.engineNow = .opening → exec .loadRecord s = .next (settle (s.answered 49 (Reply.bare .busy))))
    ∧ (s.tables.engineNow ≠ .opening → s.tables.engineNow ≠ .loading →
      exec .loadRecord s = .next (settle (s.answered 49 (Reply.bare .badState))))
    ∧ ∀ l, s.tables.engineNow = .loading → s.tables.load = some l →
      ((∀ e, l.directory[f.position]? = some e → f.count = 0 ∨ 32 < f.count ∨ e.count < f.first + f.count
          ∨ f.data.length ≠ f.count * recordSize e.kind e.count) →
        exec .loadRecord s = .next (settle (s.answered 49 (Reply.bare .badArg))))
      ∧ ∀ (e : DirEntry) (old : List Nat) (rs new : List (Nat × List Byte)), l.directory[f.position]? = some e →
        1 ≤ f.count → f.count ≤ 32 → f.first + f.count ≤ e.count →
        f.data.length = f.count * recordSize e.kind e.count → old = l.received.getD f.position [] →
        rs = frameRecords e f → new = rs.filter (fun r => !old.contains r.1) →
        (∀ i, (rs.find? fun r => old.contains r.1
              && readPart e.kind 0 (recordBytes (s.tables.bank l.target).mem e r.1)
                != readPart e.kind 0 r.2).map Prod.fst = some i →
          exec .loadRecord s = .next (settle (s.answered 49 (Reply.with .conflict (be2 i)))))
        ∧ ((∀ r ∈ rs, r.1 ∈ old →
            readPart e.kind 0 (recordBytes (s.tables.bank l.target).mem e r.1) = readPart e.kind 0 r.2) →
          (new = [] → exec .loadRecord s = .next (settle (s.answered 49 (Reply.with .ok (be1 0 ++ be1 f.count)))))
          ∧ (new ≠ [] → exec .loadRecord s = .next (settle
            { s.awaited 49 with
              tables :=
                { s.tables with
                  op := some (.recordProgram l.target f.position new (f.count - new.length)) } }))))
  ∧ ∀ (n position present : Nat) (rs : List (Nat × List Byte)) (l : Load) (e : DirEntry) (s : State),
    s.powered = true → s.tables.op = some (.recordProgram n position rs present) → s.tables.load = some l →
    l.directory[position]? = some e →
    exec .recordProgramDone s = .next (settle
      ({ s with
        tables :=
          { s.tables.setBank n
              { s.tables.bank n with mem := programRecords e rs (s.tables.bank n).mem } with
            op := none
            load := some
              { l with received := l.received.set position (l.received.getD position [] ++ rs.map Prod.fst) } } }.filled
        49 (Reply.with .ok (be1 rs.length ++ be1 present))))

/-- R61, R65, R68, byte by byte: records programmed under distinct indices read back in their places and every byte
outside them reads as before; a sector erased reads all ones and every byte outside it reads as before. -/
def Obligations.TableFlashBytes : Prop :=
  (∀ (e : DirEntry) (rs : List (Nat × List Byte)) (mem : List Host.Cell), Memory.wf mem = true →
    (rs.map Prod.fst).Nodup → (∀ r ∈ rs, r.2.length = recordSize e.kind e.count) →
    Memory.wf (programRecords e rs mem) = true
    ∧ (∀ r ∈ rs, recordBytes (programRecords e rs mem) e r.1 = r.2)
    ∧ ∀ a, (∀ r ∈ rs, a < recordAddr e r.1 ∨ recordAddr e r.1 + recordSize e.kind e.count ≤ a) →
      readByte (programRecords e rs mem) a = readByte mem a)
  ∧ ∀ (b : Bank) (k a : Nat), Memory.wf b.mem = true →
    readByte (b.eraseSector k).mem a = if k * 4096 ≤ a ∧ a < (k + 1) * 4096 then 255 else readByte b.mem a

/-- LOAD_CLOSE and CONTENT_CHECK_DONE (R69): BUSY in OPENING, BAD_STATE elsewhere outside LOADING; in LOADING the first
segment that lacks a record is reported MISSING, and a complete load is checked: a failure is reported RULE and the
load engine stays LOADING, and without one it is CLOSED. -/
def Obligations.LoadClosed : Prop :=
  (∀ s : State, s.holdsFrame 50 [] → tablesReady s = true →
    (s.tables.engineNow = .opening → exec .loadClose s = .next (settle (s.answered 50 (Reply.bare .busy))))
    ∧ (s.tables.engineNow ≠ .opening → s.tables.engineNow ≠ .loading →
      exec .loadClose s = .next (settle (s.answered 50 (Reply.bare .badState))))
    ∧ ∀ l, s.tables.engineNow = .loading → s.tables.load = some l →
      (∀ position index, missingRecord 0 l.directory l.received = some (position, index) →
        exec .loadClose s = .next (settle
          (s.answered 50 (Reply.with .closeFailed (be1 1 ++ be1 position ++ be2 index)))))
      ∧ (missingRecord 0 l.directory l.received = none → exec .loadClose s = .next (settle
        { s.awaited 50 with tables := { s.tables with checking := true } })))
  ∧ ∀ (l : Load) (s : State), s.powered = true → s.tables.checking = true → s.tables.load = some l →
    (∀ position index,
      contentFailure l.manifest (s.tables.bank l.target).mem 0 l.directory = some (position, index) →
      exec .contentCheckDone s = .next (settle
        ({ s with tables := { s.tables with checking := false } }.filled 50
          (Reply.with .closeFailed (be1 2 ++ be1 position ++ be2 index)))))
    ∧ (contentFailure l.manifest (s.tables.bank l.target).mem 0 l.directory = none →
      exec .contentCheckDone s = .next (settle
        ({ s with tables := { s.tables with checking := false, engine := .closed } }.filled 50 (Reply.bare .ok))))

/-- LOAD_COMMIT_NOW, LOAD_COMMIT_TIME and COMMIT_BEGIN (R70, R72): in CLOSED and SCHEDULED, NOW or a time reached begins
the commit with the response held, and a later time is scheduled and answered OK with it; in the other states the
answer is BAD_STATE. A commit that has begun makes the load engine COMMITTING and programs the target's mark. That a commit
begun counts as COMMITTING before its mark is programmed, and that COMMIT_BEGIN comes during a restart too, is the
model's reading (log entry 18). -/
def Obligations.CommitTaken : Prop :=
  (∀ (payload : List Byte) (s : State), s.holdsFrame 51 payload → tablesReady s = true →
    (readCommitNow payload = true →
      (s.tables.engineNow = .closed ∨ s.tables.engineNow = .scheduled → exec .loadCommitNow s = .next (settle
        { s.awaited 51 with tables := { s.tables with schedule := none, commitDue := some .immediate } }))
      ∧ (s.tables.engineNow ≠ .closed → s.tables.engineNow ≠ .scheduled →
        exec .loadCommitNow s = .next (settle (s.answered 51 (Reply.bare .badState)))))
    ∧ ∀ t, readCommitTime payload = some t →
      (s.tables.engineNow = .closed ∨ s.tables.engineNow = .scheduled →
        (t.atOrBefore s.position.clock = true → exec .loadCommitTime s = .next (settle
          { s.awaited 51 with tables := { s.tables with schedule := none, commitDue := some .immediate } }))
        ∧ (s.position.clock.before t = true → exec .loadCommitTime s = .next (settle
          { s.answered 51 (Reply.with .ok (timeBytes t)) with
            tables := { s.tables with engine := .scheduled, schedule := some t } })))
      ∧ (s.tables.engineNow ≠ .closed → s.tables.engineNow ≠ .scheduled →
        exec .loadCommitTime s = .next (settle (s.answered 51 (Reply.bare .badState)))))
  ∧ ∀ (kind : CommitKind) (l : Load) (s : State), s.powered = true → s.tables.commitDue = some kind →
    s.tables.op = none → s.tables.load = some l →
    exec .commitBegin s = .next (settle
      { s with
        tables :=
          { s.tables with engine := .committing, commitDue := none, op := some (.markProgram l.target kind) } })

/-- COMMIT_MARK_DONE (R36, R72, R73, R131): the target bank is ACTIVE with a valid mark, the bank that was ACTIVE is RETIRING
while it is pinned and STAGING otherwise, the load engine is IDLE and the load released; the COMMIT entry is queued,
dropped or waits, an immediate commit being answered when it does not wait; the COMMIT_DONE notice is placed; and a
position that the new tables do not bear out becomes UNKNOWN with a POSITION_LOST notice behind it. A COMMIT entry that
takes the last number leaves the Journal FULL, EXHAUSTED. That JOURNAL_FULL then stands before COMMIT_DONE, and that the
answer of a dropped entry carries no mark, are the model's (log entries 48 and 49). -/
def Obligations.CommitTakesEffect : Prop :=
  ∀ (n : Nat) (kind : CommitKind) (new old : Bank) (body : EntryBody) (s m : State) (after : State → State),
    s.powered = true → n ≤ 1 → s.tables.op = some (.markProgram n kind) → s.tables.outgoing = none →
    new = s.tables.bank n → old = s.tables.bank (1 - n) →
    body = .commit new.generation new.epochDay s.tables.activeGeneration kind →
    m = { s with
          tables :=
            { (s.tables.setBank n { new with role := .active, mark := .programmed new.generation true }).setBank (1 - n)
                { old with
                  role := if old.role = .active then (if 0 < old.pins then .retiring else .staging) else old.role } with
              engine := .idle, load := none, erased := 0, schedule := none, commitDue := none, op := none,
              abandoning := false } } →
    after = (fun x =>
      let y := x.noticed (.commitDone new.generation new.epochDay s.tables.activeGeneration kind n
        (m.tables.bank (1 - n)).role)
      match s.position.route, s.position.length with
      | some route, some length =>
        if s.position.pos ≠ .unknown ∧ (routePresent (m.tables.bank n) route = false
            ∨ routeLength (m.tables.bank n) route ≠ length
            ∨ routeLength (m.tables.bank n) route < s.position.pos.reach) then
          { y.noticed (.positionLost s.position.pos route length new.generation) with
            position := { s.position with pos := .unknown, route := none, length := none } }
        else y
      | _, _ => y) →
    (s.placeFree → exec .commitMarkDone s = .next (settle (after
      (if kind = .immediate then
        (m.entered s.position.run body).filled 51 (Reply.with .ok (be4 new.generation))
      else m.entered s.position.run body))))
    ∧ (s.dropsEntries → exec .commitMarkDone s = .next (settle (after
      (if kind = .immediate then m.filled 51 (Reply.with .ok (be4 new.generation)) else m))))
    ∧ (s.noPlace → .tables ∉ s.journal.waiting → exec .commitMarkDone s = .next (settle (after
      { m with
        tables := { m.tables with outgoing := some body }
        journal := { s.journal with waiting := s.journal.waiting ++ [.tables] } })))
    ∧ (s.lastPlace → exec .commitMarkDone s = .next (settle (after
      (if kind = .immediate then
        (m.entered s.position.run body).filled 51 (Reply.with .ok (be4 new.generation))
      else m.entered s.position.run body).exhausted)))

/-- LOAD_ABANDON (R74): BAD_STATE in IDLE and COMMITTING; in LOADING, CLOSED and SCHEDULED the load is released at once
and the state abandoned from is answered; in OPENING with nothing in flight the held LOAD_OPEN ends ABANDONED first,
and with an erase or the header program in flight both responses come at its completion. That a second LOAD_ABANDON is
answered with the first, and that ABANDONED carries no content, is the model's reading (log entries 17 and 26). -/
def Obligations.LoadAbandoned : Prop :=
  ∀ (T : TableStore) (s : State), T = { s.tables with engine := .idle, load := none, erased := 0, schedule := none,
                                                      abandoning := false } →
    (s.holdsFrame 52 [] → tablesReady s = true →
      (s.tables.engineNow = .idle ∨ s.tables.engineNow = .committing →
        exec .loadAbandon s = .next (settle (s.answered 52 (Reply.bare .badState))))
      ∧ (s.tables.engineNow = .loading ∨ s.tables.engineNow = .closed ∨ s.tables.engineNow = .scheduled →
        exec .loadAbandon s = .next (settle
          { s.answered 52 (Reply.with .ok (be1 s.tables.engineNow.wire)) with tables := T }))
      ∧ (s.tables.engineNow = .opening → s.tables.op = none → exec .loadAbandon s = .next (settle
        { (s.filled 48 { status := .badState, mark := .abandoned, content := [] }).answered 52
            (Reply.with .ok (be1 1)) with tables := T }))
      ∧ (s.tables.engineNow = .opening → s.tables.op ≠ none → exec .loadAbandon s = .next (settle
        { s.awaited 52 with tables := { s.tables with abandoning := true } })))
    ∧ ∀ p : TerminalPort, s.powered = true → s.tables.abandoning = true →
      p = { s.port with
            responses := fillAll 52 (Reply.with .ok (be1 1))
              (fillFirst 48 { status := .badState, mark := .abandoned, content := [] } s.port.responses) } →
      (∀ n k, s.tables.op = some (.eraseSector n k) → exec .tableSectorEraseDone s = .next (settle
        { s with tables := { T.setBank n ((s.tables.bank n).eraseSector k) with op := none }, port := p }))
      ∧ ∀ n l, s.tables.op = some (.headerProgram n) → s.tables.load = some l →
        exec .headerProgramDone s = .next (settle
          { s with
            tables := { T.setBank n
                { s.tables.bank n with
                  header := some { manifest := l.manifest, directory := l.directory }, mark := .erased } with
              op := none }
            port := p })

/-! ## Evaluation and fares (chapters 05 and 06) -/

/-- EVALUATION_BEGIN (R7, R32, R58, R77, R78): the oldest presentation leaves the queue and is in evaluation with the
snapshot of the position; the ACTIVE bank, if any, is pinned once more; the flow-control step follows. -/
def Obligations.EvaluationBegins : Prop :=
  ∀ (p : Presentation) (rest : List Presentation) (s : State), s.powered = true → s.evaluator = .idle →
    s.intake.queue = p :: rest → s.intake.causes.safe = false → s.intake.causes.shutdown = false →
    s.intake.causes.restarting = false → s.journal.mode ≠ .recovering →
    exec .evaluationBegin s = .next (settle
      { s with
        intake := { s.intake with queue := rest
                                  causes := { s.intake.causes with depth := s.depthAt rest.length } }
        evaluator := .evaluating
          { pres := p, bank := s.tables.activeIndex, generation := s.tables.activeGeneration
            snap :=
              { pos := s.position.pos, route := s.position.route, length := s.position.length
                coach := s.position.coach, demand := s.position.demand, now := s.position.clock
                valid := s.position.valid, run := s.position.run, history := s.position.history
                wrapped := s.position.wrapped } }
        tables := match s.tables.activeIndex with
          | none => s.tables
          | some n => s.tables.setBank n { s.tables.bank n with pins := (s.tables.bank n).pins + 1 } })

/-- CHECK_COMPLETION (R78, R80, R93, R95, R131): the checks give a verdict record and the memory's slots; the VERDICT
entry is queued under the snapshot's run number and the record takes its number, or it is dropped and the record is
UNJOURNALED, or it waits for a place. With the last number it leaves the Journal FULL, EXHAUSTED. -/
def Obligations.ChecksComplete : Prop :=
  ∀ (c : EvalContext) (v : Verdict) (slots : List (Nat × Sighting)) (body : EntryBody) (s m : State),
    s.powered = true → s.evaluator = .evaluating c →
    (v, slots) = workChecks (c.bank.map s.tables.bank) c
      { slots := s.memory.slots, pendingCount := s.memory.pendingList.length, window := s.settings.window } →
    body = .verdict v c.pres.source c.pres.medium c.pres.key c.pres.product →
    m = { s with memory := { s.memory with slots := slots } } →
    (s.placeFree → exec .checkCompletion s = .next (settle
      { m.entered c.snap.run body with
        evaluator := .awaiting c { v with seq := some s.journal.nextSeq } (.queued s.journal.nextSeq) }))
    ∧ (s.dropsEntries → exec .checkCompletion s = .next (settle
      { m with
        evaluator := .awaiting c { v with seq := none, flags := { v.flags with unjournaled := true } } .dropped }))
    ∧ (s.noPlace → .evaluator ∉ s.journal.waiting → exec .checkCompletion s = .next (settle
      { m with
        evaluator := .awaiting c v .place
        journal := { s.journal with waiting := s.journal.waiting ++ [.evaluator] } }))
    ∧ (s.lastPlace → exec .checkCompletion s = .next (settle
      { m.entered c.snap.run body with
        evaluator := .awaiting c { v with seq := some s.journal.nextSeq } (.queued s.journal.nextSeq) }.exhausted))

/-- VERDICT_ISSUE (R58, R95, R96, R97, R120, R125): once the VERDICT entry is complete or dropped, or queued under EARLY,
the VERDICT frame, the tap result of a reader presentation and the pattern request are handed over; consume YES makes
the trip PENDING with a window of 3 s; the pin is released and the Evaluator is IDLE; and a deferred clearing takes
the memory and the pending-consume list with it. That a CLEARED notice carries no trip state and no number is the model's
reading (log entry 21). -/
def Obligations.VerdictIssued : Prop :=
  ∀ (c : EvalContext) (v : Verdict) (w : JournalWait) (slots : List (Nat × Sighting)) (l : List PendingConsume)
    (s m : State), s.powered = true → s.evaluator = .awaiting c v w →
    (w = .dropped ∨ (∃ n, w = .completed n) ∨ (s.settings.policy = .early ∧ ∃ n, w = .queued n)) →
    s.port.notices.length ≤ 16 → s.port.dropped ≤ 255 →
    slots = (if v.consume then setTrip s.memory.slots c.pres.key .pending else s.memory.slots) →
    l = (if v.consume then
      s.memory.pendingList ++ [{ tag := v.tag, key := c.pres.key, expiry := s.timeBase + 3000 }]
      else s.memory.pendingList) →
    m = { s with
          reader := if c.pres.source = .reader then
              { s.reader with
                taps := s.reader.taps ++ [.verdict v.tag v.cls v.reason v.amount v.consume] }
            else s.reader
          annunciator := s.annunciator.take s.timeBase (patternFor s.tables.active v.cls)
          tables := match c.bank with
            | none => s.tables
            | some n => s.tables.setBank n
                { s.tables.bank n with
                  pins := (s.tables.bank n).pins - 1
                  role := if (s.tables.bank n).role = .retiring ∧ (s.tables.bank n).pins - 1 = 0 then .staging
                    else (s.tables.bank n).role }
          evaluator := .idle
          port := { s.port with verdicts := s.port.verdicts ++ [v] } } →
    (s.memory.clearDeferred = false → exec .verdictIssue s = .next (settle
      { m with memory := { s.memory with slots := slots, pendingList := l } }))
    ∧ (s.memory.clearDeferred = true → exec .verdictIssue s = .next (settle
      { m with
        memory := { s.memory with slots := [], pendingList := [], clearDeferred := false }
        port := m.moreNotices (l.map fun p =>
          { time := s.position.clock, body := .consumeResolved p.tag p.key .cleared none none }) }))

/-- R81, R82, R83, R93: stages 1 to 6 in their order, each with the verdict it decides, and the memory left as it
stood. -/
def Obligations.EarlyStagesDecide : Prop :=
  ∀ (c : EvalContext) (m : MemoryView) (v : Verdict) (slots : List (Nat × Sighting)) (b : Option Bank),
    (v, slots) = workChecks b c m →
    (b = none → v.cls = .refer ∧ v.reason = .noTables ∧ slots = m.slots)
    ∧ ∀ bank, b = some bank →
      (issuerDeclared bank c.pres.key.auth = false →
        v.cls = .refer ∧ v.reason = .unknownIssuer ∧ slots = m.slots)
      ∧ (issuerDeclared bank c.pres.key.auth = true →
        (revoked bank c.pres.key = true → v.cls = .reject ∧ v.reason = .revoked ∧ slots = m.slots)
        ∧ (revoked bank c.pres.key = false →
          (c.pres.attested = false → v.cls = .refer ∧ v.reason = .unverified ∧ slots = m.slots)
          ∧ (c.pres.attested = true →
            (productLookup bank c.pres.key.auth c.pres.product = none →
              v.cls = .refer ∧ v.reason = .unknownProduct ∧ slots = m.slots)
            ∧ ∀ prod, productLookup bank c.pres.key.auth c.pres.product = some prod →
              prod.maxPassengers < c.pres.count →
              v.cls = .refer ∧ v.reason = .passengerCount ∧ slots = m.slots)))

/-- The class permitted with each reason (the second table of R94). -/
def Sys2Proof.Machine.classOfReason : Reason → VClass
  | .valid | .recheck => .accept
  | .begunBeforeExpiry | .gracePeriod => .acceptGrace
  | .extension => .supplementDue
  | .noTables | .unknownIssuer | .unverified | .unknownProduct | .passengerCount | .duplicate | .noPosition
  | .entitlement | .expiredUncertain | .memoryFull | .consumeBusy => .refer
  | .revoked | .notYetValid | .expired | .noCover | .noTrips => .reject

/-- The reasons that stages 1 to 7 decide (R81 to R84): the memory is not updated, and stage 8 is not reached. -/
def Sys2Proof.Machine.reasonsBeforeStage8 : List Reason :=
  [.noTables, .unknownIssuer, .revoked, .unverified, .unknownProduct, .passengerCount, .duplicate]

/-- The presentation's product is a carnet in the pinned bank (R89). -/
def Sys2Proof.Machine.carnetShown (b : Option Bank) (p : Presentation) : Prop :=
  ∃ bank prod, b = some bank ∧ productLookup bank p.key.auth p.product = some prod ∧ prod.kind = .carnet

/-- R79, R84, R86, R89, R91, R92, R93, R94, R104, R109: every verdict record has a reason of its class, and a detail only
with the reason that carries one; an amount and runs only in SUPPLEMENT_DUE and REJECT with a known position, and no amount
above 65535; consume YES only for carnets whose trip is neither PENDING nor TAKEN, in the three classes that let the trip
go on, and only with a place on the pending-consume list. Of the flags, RECHECK stands exactly when stage 7 found the key
and passed on, and an ACCEPT has it by its reason; GRACE exactly when stage 8 passed on later than the validity end;
UNREMEMBERED exactly when stage 14 had no slot to give; SATURATED only with the amount 65535 in SUPPLEMENT_DUE and REJECT;
HISTORY_SHORT in EXPIRED_UNCERTAIN and, of a REJECT with a known position, in those of a wrapped history, and nowhere
else; COUNT_CLAMPED as the intake recorded it; PENDING_CONSUME only for a carnet found PENDING, without consume;
NO_POSITION exactly when the position is UNKNOWN, and then the route and the stop are absent; and UNJOURNALED is not yet
set. -/
def Obligations.VerdictRecordIsSound : Prop :=
  ∀ (b : Option Bank) (c : EvalContext) (m : MemoryView) (v : Verdict), v = (workChecks b c m).1 →
    v.cls = classOfReason v.reason
    ∧ (v.detail ≠ .absent → v.reason = .entitlement ∨ v.reason = .begunBeforeExpiry)
    ∧ (v.cls ≠ .supplementDue → v.cls ≠ .reject → v.amount = 0 ∧ v.runs = [])
    ∧ (v.pos = .unknown → v.amount = 0 ∧ v.runs = [])
    ∧ v.amount ≤ 65535
    ∧ (v.consume = true → (v.cls = .accept ∨ v.cls = .acceptGrace ∨ v.cls = .supplementDue) ∧ m.pendingCount < 4
      ∧ carnetShown b c.pres ∧ tripOf m.slots c.pres.key ≠ some .pending ∧ tripOf m.slots c.pres.key ≠ some .taken)
    ∧ (v.flags.recheck = true ↔ v.reason ∉ reasonsBeforeStage8 ∧ tripOf m.slots c.pres.key ≠ none)
    ∧ (v.cls = .accept → (v.reason = .recheck ↔ v.flags.recheck = true))
    ∧ (v.flags.grace = true ↔ v.reason ∉ reasonsBeforeStage8 ∧ v.reason ∉ [.notYetValid, .expired, .expiredUncertain]
      ∧ c.snap.now.atOrBefore c.pres.validEnd = false)
    ∧ (v.cls = .acceptGrace → v.flags.grace = true)
    ∧ (v.flags.unremembered = true ↔ v.reason ∉ reasonsBeforeStage8 ∧ tripOf m.slots c.pres.key = none
      ∧ (∃ e, lookupAt m.slots (primarySlot c.pres.key) = some e ∧ e.trip ≠ .none)
      ∧ ∃ e, lookupAt m.slots (alternateSlot c.pres.key) = some e ∧ e.trip ≠ .none)
    ∧ (v.flags.saturated = true → v.amount = 65535 ∧ (v.cls = .supplementDue ∨ v.cls = .reject))
    ∧ (v.reason = .expiredUncertain → v.flags.historyShort = true)
    ∧ (v.cls = .reject → v.pos ≠ .unknown → v.flags.historyShort = c.snap.wrapped)
    ∧ (v.flags.historyShort = true →
      c.snap.wrapped = true ∧ (v.reason = .expiredUncertain ∨ (v.cls = .reject ∧ v.pos ≠ .unknown)))
    ∧ v.flags.countClamped = c.pres.clamped
    ∧ (v.flags.pendingConsume = true → carnetShown b c.pres ∧ tripOf m.slots c.pres.key = some .pending
      ∧ v.flags.recheck = true ∧ v.consume = false)
    ∧ (v.flags.noPosition = true ↔ v.pos = .unknown)
    ∧ (v.flags.noPosition = true → v.route = none ∧ v.stopIndex = none)
    ∧ v.flags.unjournaled = false ∧ v.seq = none

/-- R105: the stops of a walk, in order, fall into groups, each of one authority and each of another authority than the
group before it; and there is one run for each group, of its authority, from its first stop to its last. -/
def Obligations.RunsAreMaximal : Prop :=
  ∀ stops : List StopRec, ∃ groups : List (List StopRec),
    groups.flatten = stops
    ∧ (∀ g ∈ groups, g ≠ [] ∧ ∀ x ∈ g, ∀ y ∈ g, x.auth = y.auth)
    ∧ (∀ (i : Nat) (g h : List StopRec), groups[i]? = some g → groups[i + 1]? = some h →
      ∀ x ∈ g, ∀ y ∈ h, x.auth ≠ y.auth)
    ∧ (cutRuns stops).length = groups.length
    ∧ (cutRuns stops).length ≤ stops.length
    ∧ (stops ≠ [] → 1 ≤ (cutRuns stops).length)
    ∧ ∀ (i : Nat) (g : List StopRec) (r : Run), groups[i]? = some g → (cutRuns stops)[i]? = some r →
      (∃ e, g.head? = some e ∧ r.auth = e.auth ∧ r.firstZone = e.zone)
      ∧ ∃ f, g.getLast? = some f ∧ r.lastZone = f.zone

/-- R107, with the rate and factor of R102: v2 is the next whole number at or above a hundredth of rate times zones times
factor; v3 counts the passengers and adds the correction for each; what is not below zero goes up to the next
multiple of the unit; and the cap ends it. -/
def Obligations.RunAmountSteps : Prop :=
  ∀ (t : RatesRec) (first : Bool) (cat : Category) (p n : Nat), 1 ≤ t.unit →
    ∃ (v2 q : Nat) (v3 : Int),
      (if first then t.first else t.second) * n * factorFor t cat ≤ 100 * v2
      ∧ 100 * v2 < (if first then t.first else t.second) * n * factorFor t cat + 100
      ∧ v3 = (v2 : Int) * p + t.correction * p
      ∧ v3 ≤ ((q * t.unit : Nat) : Int) ∧ (0 < q → (((q - 1) * t.unit : Nat) : Int) < v3)
      ∧ runAmount t first cat p n = (if t.cap < q * t.unit then t.cap else q * t.unit)

/-! ## The Inspection Memory (chapter 07) -/

/-- R113: the two slots of a key, which always differ; a key that is held is at one of them; keys of one serial and two
authorities have different primary slots; and every key whose primary slot is another's alternate has that other's
primary slot as its own alternate. -/
def Obligations.SlotsOfAKey : Prop :=
  (∀ k : Key, primarySlot k = (k.serial % 2048 + 341 * k.auth) % 2048
    ∧ alternateSlot k = (primarySlot k + 1024) % 2048 ∧ primarySlot k ≠ alternateSlot k)
  ∧ (∀ (slots : List (Nat × Sighting)) (k : Key) (i : Nat) (e : Sighting), findSighting slots k = some (i, e) →
    (i = primarySlot k ∨ i = alternateSlot k) ∧ e.key = k)
  ∧ (∀ serial a b : Nat, 1 ≤ a → a ≤ 6 → 1 ≤ b → b ≤ 6 → a ≠ b →
    primarySlot { auth := a, serial := serial } ≠ primarySlot { auth := b, serial := serial })
  ∧ ∀ k j : Key, (primarySlot k = primarySlot j → alternateSlot k = alternateSlot j)
    ∧ (primarySlot k = alternateSlot j → alternateSlot k = primarySlot j)

/-- R116, R117: the memory update never evicts an entry whose trip state is PENDING or TAKEN; it changes no trip state that
it keeps, of a key found whatever it is, NONE included, and inserts with NONE; and the key is held afterwards exactly when
the presentation is remembered. -/
def Obligations.ProtectedTripsSurvive : Prop :=
  ∀ (slots : List (Nat × Sighting)) (window : Nat) (u : SightingUpdate), risingKeys slots = true →
    (∀ i e, lookupAt slots i = some e → e.trip ≠ .none →
      ∃ f, lookupAt (remember slots window u).1 i = some f ∧ f.key = e.key ∧ f.trip = e.trip)
    ∧ ((remember slots window u).2 = true ↔ ∃ i e, findSighting (remember slots window u).1 u.key = some (i, e))
    ∧ ((remember slots window u).2 = false → (remember slots window u).1 = slots)
    ∧ (∀ t, tripOf slots u.key = some t → tripOf (remember slots window u).1 u.key = some t)
    ∧ (tripOf slots u.key = none → (remember slots window u).2 = true →
      tripOf (remember slots window u).1 u.key = some .none)
    ∧ risingKeys (remember slots window u).1 = true

/-- The handling of one resolution's CONSUME entry and notice (R124) from a state in which the trip itself is resolved:
queued, dropped, held while the start-up recovery runs, waiting for a place, one more that waits, a fifth dropped, or
queued under the last number, which leaves the Journal FULL, EXHAUSTED. -/
def Sys2Proof.Machine.resolvesTo (x : Host.Outcome State Fault Refusal) (s m : State) (tag : Nat) (key : Key)
    (o : ConsumeOutcome) : Prop :=
  (s.placeFree → s.memory.resolutions = [] → x = .next (settle
    ((m.entered s.position.run (.consume tag key o)).noticed
      (.consumeResolved tag key o (tripOf m.memory.slots key) (some s.journal.nextSeq)))))
  ∧ (s.dropsEntries → s.memory.resolutions = [] → x = .next (settle
    (m.noticed (.consumeResolved tag key o (tripOf m.memory.slots key) none))))
  ∧ (s.noPlace → s.memory.resolutions = [] → .memory ∉ s.journal.waiting → x = .next (settle
    { m with
      memory := { m.memory with resolutions := [{ tag := tag, key := key, outcome := o, run := s.position.run }] }
      journal := { s.journal with waiting := s.journal.waiting ++ [.memory] } }))
  ∧ (s.journal.full = none → s.journal.mode = .recovering → s.memory.resolutions = [] → x = .next (settle
    { m with
      memory := { m.memory with resolutions := [{ tag := tag, key := key, outcome := o, run := s.position.run }] } }))
  ∧ (s.journal.full = none → s.memory.resolutions ≠ [] → s.memory.resolutions.length < 4 → x = .next (settle
    { m with
      memory :=
        { m.memory with
          resolutions := s.memory.resolutions
            ++ [{ tag := tag, key := key, outcome := o, run := s.position.run }] } }))
  ∧ (4 ≤ s.memory.resolutions.length → x = .next (settle
    (m.noticed (.consumeResolved tag key o (tripOf m.memory.slots key) none))))
  ∧ (s.lastPlace → s.memory.resolutions = [] → x = .next (settle
    ((m.entered s.position.run (.consume tag key o)).noticed
      (.consumeResolved tag key o (tripOf m.memory.slots key) (some s.journal.nextSeq))).exhausted))

/-- CONSUME_REPORT and CONSUME_WINDOW_EXPIRY (R121, R122, R123, R124, R131): a report that matches an entry by tag and key
takes it off the list and settles the trip; an unmatched WRITTEN is TAKEN_LATE, and marks a held trip TAKEN unless it
is PENDING; an unmatched NOT_WRITTEN, or a report that is not well formed, changes nothing but the bytes received; a
window that expires takes the oldest entry off the list as TIMED_OUT with the trip NONE. That the time base moves to the
expiry when it lies ahead, and that CONSUME_RESOLVED stands before JOURNAL_FULL, are the model's choices (log entries 3
and 48). -/
def Obligations.TripsResolve : Prop :=
  (∀ (bytes payload rest : List Byte) (s : State), s.powered = true →
    wholeFrame [2] (s.reader.rx ++ bytes) = some (2, payload, rest) →
    (readConsumeReport payload = none →
      exec (.consumeReport bytes) s = .next (settle { s with reader := { s.reader with rx := rest } }))
    ∧ ∀ tag key o, readConsumeReport payload = some (tag, key, o) →
      ((∃ p ∈ s.memory.pendingList, p.tag = tag ∧ p.key = key) →
        resolvesTo (exec (.consumeReport bytes) s) s
          { s with
            reader := { s.reader with rx := rest }
            memory :=
              { s.memory with
                slots := setTrip s.memory.slots key (if o = .written then .taken else .none)
                pendingList := s.memory.pendingList.eraseP fun p => p.tag == tag && p.key == key } }
          tag key o)
      ∧ ((∀ p ∈ s.memory.pendingList, p.tag = tag → p.key ≠ key) →
        (o = .notWritten →
          exec (.consumeReport bytes) s = .next (settle { s with reader := { s.reader with rx := rest } }))
        ∧ (o = .written → resolvesTo (exec (.consumeReport bytes) s) s
          { s with
            reader := { s.reader with rx := rest }
            memory :=
              { s.memory with
                slots := if tripOf s.memory.slots key = some .pending then s.memory.slots
                  else setTrip s.memory.slots key .taken } }
          tag key .takenLate)))
  ∧ ∀ (p : PendingConsume) (rest : List PendingConsume) (s : State), s.powered = true →
    s.memory.pendingList = p :: rest →
    resolvesTo (exec .consumeWindowExpiry s) s
      { s with
        timeBase := max s.timeBase p.expiry
        memory := { s.memory with slots := setTrip s.memory.slots p.key .none, pendingList := rest } }
      p.tag p.key .timedOut

/-! ## The Journal (chapter 08) -/

/-- What an accepted NOTE, a raised export mark and a CLOSED entry have in common (R142, R143): an entry offered from the
control place is queued and answered with its number, dropped and answered UNJOURNALED, or waits there; queued under the
last number there is, it leaves the Journal FULL with its numbers exhausted (R131). -/
def Sys2Proof.Machine.controlEntry (x : Host.Outcome State Fault Refusal) (s m : State) (cls : Nat) (c : ControlItem)
    (st : Status) (before : List Byte) : Prop :=
  (s.placeFree → x = .next (settle
    (({ m.entered s.position.run c.body with
        journal := { (m.entered s.position.run c.body).journal with control := none } }).filled cls
      { status := st, mark := .none, content := before ++ be4 s.journal.nextSeq })))
  ∧ (s.dropsEntries → x = .next (settle
    (({ m with journal := { m.journal with control := none } }).filled cls
      { status := st, mark := .unjournaled, content := before ++ be4 0 })))
  ∧ (s.noPlace → .control ∉ s.journal.waiting → x = .next (settle
    { m with journal := { m.journal with control := some c, waiting := s.journal.waiting ++ [.control] } }))
  ∧ (s.lastPlace → x = .next (settle
    (({ m.entered s.position.run c.body with
        journal := { (m.entered s.position.run c.body).journal with control := none } }.filled cls
      { status := st, mark := .none, content := before ++ be4 s.journal.nextSeq }).exhausted)))

/-- WAITING_ENTRY_QUEUED (R31, R73, R95, R124, R130, R131, R132, R143, R146, R147, R150): with a place free, the
producer at the head of the waiting list leaves it, its entry takes the next number, and the producer is told. With the
last number the Journal is FULL, EXHAUSTED: every producer that still waits is told that its entry is dropped, the
waiting list is empty, and the JOURNAL_FULL notice is placed, behind the notices of the entry queued and of the entries
dropped (the model's choice, log entry 48). -/
def Obligations.WaitingEntryTakesThePlace : Prop :=
  ∀ (p : Producer) (rest : List Producer) (s m : State), s.powered = true → s.journal.waiting = p :: rest →
    s.journal.queue.length < 8 → s.takesEntries → s.journal.full = none →
    m = { s with journal := { s.journal with waiting := rest } } →
    (s.journal.nextSeq < 4294967295 →
      (∀ c v, p = .evaluator → s.evaluator = .awaiting c v .place → exec .waitingEntryQueued s = .next (settle
        { m.entered c.snap.run (.verdict v c.pres.source c.pres.medium c.pres.key c.pres.product) with
          evaluator := .awaiting c { v with seq := some s.journal.nextSeq } (.queued s.journal.nextSeq) }))
      ∧ (∀ o, p = .position → s.position.outgoing = some o → exec .waitingEntryQueued s = .next (settle
        ({ m.entered s.position.run o.body with position := { s.position with outgoing := none } }.filled o.cls
          (Reply.with .ok o.content))))
      ∧ (∀ generation epochDay previous, p = .tables →
        (s.tables.outgoing = some (.commit generation epochDay previous .scheduled) →
          exec .waitingEntryQueued s = .next (settle
            { m.entered s.position.run (.commit generation epochDay previous .scheduled) with
              tables := { s.tables with outgoing := none } }))
        ∧ (s.tables.outgoing = some (.commit generation epochDay previous .immediate) →
          exec .waitingEntryQueued s = .next (settle
            ({ m.entered s.position.run (.commit generation epochDay previous .immediate) with
                tables := { s.tables with outgoing := none } }.filled 51 (Reply.with .ok (be4 generation))))))
      ∧ (∀ r more, p = .memory → s.memory.resolutions = r :: more → .memory ∉ rest →
        exec .waitingEntryQueued s = .next (settle
          { (m.entered r.run (.consume r.tag r.key r.outcome)).noticed
              (.consumeResolved r.tag r.key r.outcome (tripOf s.memory.slots r.key) (some s.journal.nextSeq)) with
            memory := { s.memory with resolutions := more }
            journal :=
              { (m.entered r.run (.consume r.tag r.key r.outcome)).journal with
                waiting := if more = [] then rest else rest ++ [.memory] } }))
      ∧ ∀ (item : ControlItem) (w : State), p = .control → s.journal.control = some item →
        w = { m.entered s.position.run item.body with
              journal := { (m.entered s.position.run item.body).journal with control := none } } →
        (∀ bytes, item = .note bytes → exec .waitingEntryQueued s = .next (settle
          (w.filled 66 { status := .ok, mark := .none, content := be4 s.journal.nextSeq })))
        ∧ (∀ value clamped, item = .mark value clamped → exec .waitingEntryQueued s = .next (settle
          (w.filled 65
            { status := if clamped then .okClamped else .ok, mark := .none
              content := be4 value ++ be4 s.journal.nextSeq })))
        ∧ (∀ cause generation, item = .started cause generation → exec .waitingEntryQueued s = .next (settle
          (w.noticed
            (.started cause (some s.journal.nextSeq) s.tables.activeIndex s.tables.activeGeneration
              s.tables.activeEpochDay s.journal.headSector s.journal.headSlot s.journal.mark s.journal.highest
              s.journal.oldest s.journal.recoveryErased s.supplyLow))))
        ∧ (item = .closed → exec .waitingEntryQueued s = .next (settle
          { w with journal := { w.journal with mode := .shut } })))
    ∧ ∀ (d : Draft), s.journal.nextSeq = 4294967295 → draftOf s p = some d →
      ∃ u : State, exec .waitingEntryQueued s = .next (settle (u.noticed
          (.journalFull .exhausted 0 s.journal.headSector s.journal.mark s.journal.highest s.journal.highestAhead)))
        ∧ u.journal.full = some .exhausted ∧ u.journal.waiting = [] ∧ u.journal.nextSeq = 4294967296
        ∧ u.journal.queue = s.journal.queue
            ++ [{ seq := 4294967295, time := s.position.clock, run := d.run.getD s.position.run, body := d.body }]
        ∧ u.journal.slots = s.journal.slots ∧ u.journal.mark = s.journal.mark
        ∧ (∀ c v, p = .evaluator → s.evaluator = .awaiting c v .place →
          u.evaluator = .awaiting c { v with seq := some 4294967295 } (.queued 4294967295))
        ∧ (∀ c v, p ≠ .evaluator → .evaluator ∈ rest → s.evaluator = .awaiting c v .place →
          u.evaluator = toldDropped c v)
        ∧ (p = .position ∨ .position ∈ rest → u.position.outgoing = none)
        ∧ (p = .tables ∨ .tables ∈ rest → u.tables.outgoing = none)
        ∧ (p = .memory ∨ .memory ∈ rest → u.memory.resolutions = [])
        ∧ (p = .control ∨ .control ∈ rest → u.journal.control = none)

/-- ENTRY_PROGRAM_START and ENTRY_PROGRAM_DONE (R95, R129, R133, R136, R137): the head entry is programmed when the
flash is free, no erase is due and it fits; at the completion its slots from the head are complete and every other slot
is as it was, the head is past them, the entry has left the queue, and the Evaluator is told of its VERDICT and SHUTDOWN
answered for CLOSED; a VERDICT entry that the Evaluator does not wait for tells nobody. Where the next entry then does
not fit, nobody waits and the sector ahead is in use and not reclaimable, the Journal becomes FULL, as in HeadMoves,
within the completion; with a producer waiting it does not yet, which is the model's choice (log entry 24). A FULL that
is EXHAUSTED stays so (log entry 20). -/
def Obligations.EntriesAreProgrammed : Prop :=
  (∀ (e : Entry) (rest : List Entry) (s : State), s.powered = true → s.journal.op = none →
    s.journal.mode ≠ .recovering → eraseDue s = false → s.journal.queue = e :: rest →
    s.journal.headSlot + entrySlots e.body ≤ 64 →
    exec .entryProgramStart s = .next (settle { s with journal := { s.journal with op := some .program } }))
  ∧ ∀ (e : Entry) (rest : List Entry) (s : State), s.powered = true → s.journal.op = some .program →
    s.journal.queue = e :: rest → risingKeys s.journal.slots = true →
    ∃ (slots : List (Nat × JSlot)) (m t : State),
      (∀ a, lookupAt slots a
        = if s.journal.headSector * 64 + s.journal.headSlot ≤ a
              ∧ a < s.journal.headSector * 64 + s.journal.headSlot + entrySlots e.body then
            some (.part e (a - (s.journal.headSector * 64 + s.journal.headSlot)))
          else lookupAt s.journal.slots a)
      ∧ m = { s with
              journal :=
                { s.journal with
                  slots := slots, headSlot := s.journal.headSlot + entrySlots e.body, queue := rest, op := none } }
      ∧ (∀ c v x src med key prod, e.body = .verdict x src med key prod → s.evaluator = .awaiting c v (.queued e.seq) →
        t = { m with evaluator := .awaiting c v (.completed e.seq) })
      ∧ (∀ x src med key prod, e.body = .verdict x src med key prod →
        (∀ c v, s.evaluator ≠ .awaiting c v (.queued e.seq)) → t = m)
      ∧ (e.body = .closed → t = m.filled 67 (Reply.bare .ok))
      ∧ (e.body ≠ .closed → (∀ x src med key prod, e.body ≠ .verdict x src med key prod) → t = m)
      ∧ ((∀ f more, rest = f :: more → m.journal.headSlot + entrySlots f.body ≤ 64) ∨ s.journal.waiting ≠ []
          ∨ m.journal.sectorState ((s.journal.headSector + 1) % 64) ≠ .inUse
          ∨ (∀ f ∈ sectorEntries slots ((s.journal.headSector + 1) % 64), f.seq ≤ s.journal.mark) →
        exec .entryProgramDone s = .next (settle t))
      ∧ ((∃ f more, rest = f :: more ∧ 64 < m.journal.headSlot + entrySlots f.body) → s.journal.waiting = [] →
        m.journal.sectorState ((s.journal.headSector + 1) % 64) = .inUse →
        (∃ f ∈ sectorEntries slots ((s.journal.headSector + 1) % 64), s.journal.mark < f.seq) →
        ∃ u : State, exec .entryProgramDone s = .next (settle (u.noticed
            (.journalFull .noSector rest.length s.journal.headSector s.journal.mark m.journal.highest
              m.journal.highestAhead)))
          ∧ u.journal = { m.journal with
              full := if s.journal.full = some .exhausted then some .exhausted else some .noSector
              queue := [] }
          ∧ u.intake = s.intake ∧ u.settings = s.settings ∧ u.memory = s.memory ∧ u.position = s.position
          ∧ u.tables = s.tables
          ∧ (∀ c v n, t.evaluator = .awaiting c v (.queued n) →
            (∃ f ∈ rest, f.seq = n ∧ ∃ x src med key prod, f.body = .verdict x src med key prod) →
            u.evaluator = toldDropped c v)
          ∧ ((∀ c v n, t.evaluator ≠ .awaiting c v (.queued n)) → u.evaluator = t.evaluator))

/-- HEAD_MOVE (R134, R136, R137): the head stays while an operation is in flight, the erase of the sector ahead among them,
and while an erase is due; else, when the head entry does not fit, the head moves to slot 0 of an ERASED sector ahead,
waits for a reclaimable one, or the Journal becomes FULL: its JOURNAL_FULL notice counts the entries dropped, the write
queue and the waiting list are empty, the Evaluator is told of the VERDICT entry it waits for, the numbers given are
kept, and the ring, the head and the mark are as they were. With its numbers exhausted before, the Journal stays EXHAUSTED
behind that notice of NO_SECTOR. That, and that the notices of dropped resolutions stand before JOURNAL_FULL, are the
model's (log entries 20 and 48). -/
def Obligations.HeadMoves : Prop :=
  ∀ (e : Entry) (rest : List Entry) (ahead : Nat) (s : State), s.powered = true →
    s.journal.mode ≠ .recovering → s.journal.queue = e :: rest →
    64 < s.journal.headSlot + entrySlots e.body → ahead = (s.journal.headSector + 1) % 64 →
    (s.journal.op = some (.erase ahead) → s.journal.sectorState ahead = .erasing)
    ∧ (s.journal.op ≠ none ∨ eraseDue s = true → exec .headMove s = .next s)
    ∧ (s.journal.op = none → eraseDue s = false →
      (s.journal.sectorState ahead = .erased → exec .headMove s = .next (settle
        { s with journal := { s.journal with headSector := ahead, headSlot := 0 } }))
      ∧ (s.journal.sectorState ahead = .inUse →
        (∀ f ∈ sectorEntries s.journal.slots ahead, f.seq ≤ s.journal.mark) →
        exec .headMove s = .next (settle s))
      ∧ (s.journal.sectorState ahead = .inUse →
        (∃ f ∈ sectorEntries s.journal.slots ahead, s.journal.mark < f.seq) →
        ∃ u : State, exec .headMove s = .next (settle (u.noticed
            (.journalFull .noSector s.journal.queue.length s.journal.headSector s.journal.mark s.journal.highest
              s.journal.highestAhead)))
          ∧ u.journal = { s.journal with
              full := if s.journal.full = some .exhausted then some .exhausted else some .noSector
              queue := [], waiting := []
              mode := if .control ∈ s.journal.waiting ∧ s.journal.control = some .closed then .shut
                else s.journal.mode
              control := if .control ∈ s.journal.waiting then none else s.journal.control }
          ∧ u.intake = s.intake ∧ u.settings = s.settings
          ∧ u.memory.slots = s.memory.slots ∧ u.memory.pendingList = s.memory.pendingList
          ∧ (∀ c v n, s.evaluator = .awaiting c v (.queued n) →
            (∃ f ∈ s.journal.queue, f.seq = n ∧ ∃ x src med key prod, f.body = .verdict x src med key prod) →
            u.evaluator = toldDropped c v)
          ∧ (∀ c v, s.evaluator = .awaiting c v .place → .evaluator ∈ s.journal.waiting →
            u.evaluator = toldDropped c v)
          ∧ ((∀ c v w, s.evaluator = .awaiting c v w → (∃ n, w = .completed n) ∨ w = .dropped) →
            u.evaluator = s.evaluator)
          ∧ (.position ∈ s.journal.waiting → u.position.outgoing = none)
          ∧ (.tables ∈ s.journal.waiting → u.tables.outgoing = none)
          ∧ (.memory ∈ s.journal.waiting → u.memory.resolutions = [])))

/-- JOURNAL_ERASE_START and JOURNAL_SECTOR_ERASE_DONE (R135, R138, R141, R145): the sector ahead is erased, and only while it
is in use with every complete entry of it at or below the export mark and none in the export stream, outside SAFE, in
OPEN, in SHUTTING, in a restart's drain, or in SHUT with CLOSED still queued, and with the flash free; else the command
changes nothing. That a restart counts as its drain until it takes effect is the model's choice (log entry 42). At the
completion the sector's slots are erased, every other slot is as it was, and a FULL for want of a sector ends with its
JOURNAL_AVAILABLE notice. -/
def Obligations.JournalSectorErased : Prop :=
  (∀ (ahead : Nat) (due : Prop) (s : State), s.powered = true → ahead = (s.journal.headSector + 1) % 64 →
    (due ↔ s.journal.sectorState ahead = .inUse
      ∧ (∀ e ∈ sectorEntries s.journal.slots ahead, e.seq ≤ s.journal.mark ∧ e.seq ∉ s.port.stream)
      ∧ s.intake.causes.safe = false
      ∧ (s.journal.mode = .opened ∨ s.journal.mode = .shutting
        ∨ (s.journal.mode = .shut
          ∧ (s.intake.causes.restarting = true ∨ ∃ e ∈ s.journal.queue, e.body = .closed)))) →
    ahead ≠ s.journal.headSector
    ∧ (due ↔ eraseDue s = true)
    ∧ (due → s.journal.op = none → exec .journalEraseStart s = .next (settle
      { s with journal := { s.journal with op := some (.erase ahead) } }))
    ∧ (¬due ∨ s.journal.op ≠ none → exec .journalEraseStart s = .next s))
  ∧ ∀ (k : Nat) (s : State), s.powered = true → s.journal.op = some (.erase k) →
    ∃ (slots : List (Nat × JSlot)) (m : State),
      (∀ a, lookupAt slots a = if k * 64 ≤ a ∧ a < k * 64 + 64 then none else lookupAt s.journal.slots a)
      ∧ m = { s with journal := { s.journal with slots := slots, op := none } }
      ∧ (s.journal.mode ≠ .recovering → s.journal.full ≠ some .noSector →
        exec .journalSectorEraseDone s = .next (settle m))
      ∧ (s.journal.mode ≠ .recovering → s.journal.full = some .noSector →
        exec .journalSectorEraseDone s = .next (settle
          ({ m with journal := { m.journal with full := none } }.noticed (.journalAvailable k s.journal.mark))))
      ∧ ∀ r, s.journal.mode = .recovering → s.journal.recovery = some r →
        exec .journalSectorEraseDone s = .next (settle
          { m with
            journal :=
              { m.journal with recovery := some { r with toErase := r.toErase.tail, erased := r.erased + 1 } } })

/-- EXPORT_READ (R140, R159): the numbers of the complete entries at or above the one asked for, ascending and up to the
count, become the stream; the response carries the first number and how many follow. Entries of a sector being
erased are not among them (log entry 36), and the first number is read as log entry 38 says. -/
def Obligations.ExportStreamFixed : Prop :=
  ∀ (payload : List Byte) (start count : Nat) (s : State), s.holdsFrame 64 payload → s.journal.control = none →
    readExportRead payload = some (start, count) →
    ∃ l : List Nat,
      exec .exportRead s = .next (settle
        { s with
          port :=
            { s.port with
              input := none, stream := l, burst := none
              responses := s.port.responses
                ++ [{ cls := 64
                      reply := some (Reply.with .ok
                        (be4 (if l = [] then 0 else max start s.journal.oldest) ++ be2 l.length)) }] } })
      ∧ l.length ≤ count ∧ l.Pairwise (· ≤ ·)
      ∧ (∀ n ∈ l, start ≤ n ∧ ∃ x ∈ completeEntries s.journal.slots,
          x.2.seq = n ∧ s.journal.op ≠ some (.erase (x.1 / 64)))
      ∧ ∀ x ∈ completeEntries s.journal.slots, s.journal.op ≠ some (.erase (x.1 / 64)) → start ≤ x.2.seq →
          x.2.seq ∈ l ∨ (l.length = count ∧ ∀ n ∈ l, n ≤ x.2.seq)

/-- EXPORT_MARK (R142) and NOTE (R143): at or below the mark, or above the highest complete number with the mark already
there, nothing changes and the response carries the mark; else the mark is raised at once, clamped to the highest
complete number, and its MARK entry is queued, dropped or waits; a NOTE entry of sixteen bytes is queued, dropped or
waits in the same way. An entry that takes the last number leaves the Journal FULL, EXHAUSTED, with its notice (R131). -/
def Obligations.MarksAndNotesJournaled : Prop :=
  (∀ (payload : List Byte) (value new : Nat) (s : State), s.holdsFrame 65 payload → s.journal.control = none →
    readExportMark payload = some value → new = min value s.journal.highest →
    (new ≤ s.journal.mark → exec .exportMark s = .next (settle (s.answered 65
      (Reply.with (if s.journal.highest < value then .okClamped else .ok) (be4 s.journal.mark ++ be4 0)))))
    ∧ (s.journal.mark < new →
      controlEntry (exec .exportMark s) s
        { s.awaited 65 with journal := { s.journal with mark := new } } 65
        (.mark new (decide (s.journal.highest < value)))
        (if s.journal.highest < value then .okClamped else .ok) (be4 new)))
  ∧ ∀ (payload : List Byte) (s : State), s.holdsFrame 66 payload → s.journal.control = none → payload.length = 16 →
    controlEntry (exec .note s) s (s.awaited 66) 66 (.note payload) .ok []

/-- SHUTDOWN and CLOSED_ENTRY (R16, R147): in OPEN the Journal enters SHUTTING with SHUTDOWN among the hold causes and
the response held, and elsewhere the answer is BAD_STATE; once the Evaluator is idle, the write queue empty and no
producer waits, the CLOSED entry is queued, or dropped while FULL and the response marked, and the mode is SHUT. A CLOSED
entry that takes the last number leaves the Journal FULL, EXHAUSTED (R131). -/
def Obligations.ShutdownCloses : Prop :=
  (∀ s : State, s.holdsFrame 67 [] → s.journal.control = none →
    (s.journal.mode = .opened → exec .shutdown s = .next (settle
      { s.awaited 67 with
        journal := { s.journal with mode := .shutting }
        intake := { s.intake with causes := { s.intake.causes with shutdown := true } } }))
    ∧ (s.journal.mode ≠ .opened → exec .shutdown s = .next (settle (s.answered 67 (Reply.bare .badState)))))
  ∧ ∀ s : State, s.powered = true → s.journal.mode = .shutting → s.intake.causes.restarting = false →
    s.evaluator = .idle → s.journal.queue = [] → s.journal.waiting = [] → s.journal.control = none →
    (s.journal.full = none → s.journal.nextSeq < 4294967295 → exec .closedEntry s = .next (settle
      { s with
        journal :=
          { s.journal with
            mode := .shut, nextSeq := s.journal.nextSeq + 1
            queue := [{ seq := s.journal.nextSeq, time := s.position.clock, run := s.position.run
                        body := .closed }] } }))
    ∧ (s.journal.full = none → s.journal.nextSeq = 4294967295 → exec .closedEntry s = .next (settle
      { s with
        journal :=
          { s.journal with
            mode := .shut, nextSeq := 4294967296
            queue := [{ seq := 4294967295, time := s.position.clock, run := s.position.run
                        body := .closed }] } }.exhausted))
    ∧ (s.journal.full ≠ none → exec .closedEntry s = .next (settle
      ({ s with journal := { s.journal with mode := .shut } }.filled 67
        { status := .ok, mark := .unjournaled, content := [] })))

/-- R129: a slot of the ring that is neither erased nor part of a complete entry. -/
def Sys2Proof.Machine.neitherState (slots : List (Nat × JSlot)) (a : Nat) : Prop :=
  (∃ x, lookupAt slots a = some x) ∧ ∀ y ∈ completeEntries slots, a < y.1 ∨ y.1 + entrySlots y.2.body ≤ a

/-- What RECOVERY_READ_DONE finds in the ring (R35, R144, R145, R146): of a ring with no complete entry nothing, and head
sector 0; else the entry of the highest number, its sector and whether it is CLOSED; the larger of the largest recorded
mark and the oldest number less one; the run number of the latest RUN_START; and the damaged sectors that are
reclaimable under that mark, in ascending order (log entry 44). -/
def Sys2Proof.Machine.recoveryFound (slots : List (Nat × JSlot)) (r : Recovery) : Prop :=
  (completeEntries slots = [] →
    r.highest = none ∧ r.headSector = 0 ∧ r.mark = 0 ∧ r.run = 0 ∧ r.closedLast = false)
  ∧ (completeEntries slots ≠ [] →
    (∃ x ∈ completeEntries slots, r.highest = some x.2.seq ∧ r.headSector = x.1 / 64
      ∧ (r.closedLast = true ↔ x.2.body = .closed) ∧ ∀ y ∈ completeEntries slots, y.2.seq ≤ x.2.seq)
    ∧ ∃ o ∈ completeEntries slots, (∀ y ∈ completeEntries slots, o.2.seq ≤ y.2.seq)
      ∧ o.2.seq - 1 ≤ r.mark ∧ (∀ y ∈ completeEntries slots, ∀ v, y.2.body = .mark v → v ≤ r.mark)
      ∧ (r.mark = o.2.seq - 1 ∨ ∃ y ∈ completeEntries slots, y.2.body = .mark r.mark))
  ∧ ((∀ x ∈ completeEntries slots, x.2.body ≠ .runStart) → r.run = 0)
  ∧ ((∃ x ∈ completeEntries slots, x.2.body = .runStart) → ∃ x ∈ completeEntries slots, x.2.body = .runStart
      ∧ r.run = x.2.run ∧ ∀ y ∈ completeEntries slots, y.2.body = .runStart → y.2.seq ≤ x.2.seq)
  ∧ (risingKeys slots = true → ∀ k, k ∈ r.toErase ↔ k < 64
    ∧ (completeEntries slots ≠ [] → k ≠ r.headSector)
    ∧ (∃ a, a / 64 = k ∧ neitherState slots a)
    ∧ ∀ x ∈ completeEntries slots, x.1 / 64 = k → x.2.seq ≤ r.mark)
  ∧ r.toErase.Pairwise (· < ·) ∧ r.erased = 0

/-- RECOVERY_READ_DONE, RECOVERY_ERASE and STARTED_ENTRY (R35, R131, R132, R144, R145, R146): the reading fixes what the ring
holds; the damaged sectors that are reclaimable under the recovered mark are erased one at a time, none in SAFE and none
while an operation is in flight; then the Journal is OPEN with the recovered head, number, mark and run, its STARTED entry
is queued and its STARTED notice placed, or, with no number left, the Journal is FULL, EXHAUSTED, its STARTED entry
dropped, and JOURNAL_FULL follows STARTED. A resolution held during recovery takes the number after STARTED (log entry 34).
That what is found takes effect at STARTED_ENTRY, the mark then not below the
oldest retained number less one, is the model's reading (log entries 22 and 28), and that a STARTED entry which takes the
last number has its notice before JOURNAL_FULL is the model's choice (log entry 48). -/
def Obligations.RecoveryOpensTheJournal : Prop :=
  ∀ s : State, s.powered = true → s.journal.mode = .recovering →
    (s.journal.recovery = none → ∃ r, exec .recoveryReadDone s = .next (settle
        { s with journal := { s.journal with recovery := some r } })
      ∧ recoveryFound s.journal.slots r)
    ∧ (∀ r k more, s.journal.recovery = some r → r.toErase = k :: more →
      (s.journal.op = none → s.intake.causes.safe = false →
        exec .recoveryErase s = .next (settle { s with journal := { s.journal with op := some (.erase k) } }))
      ∧ (s.journal.op ≠ none ∨ s.intake.causes.safe = true → exec .recoveryErase s = .next s)
      ∧ exec .startedEntry s = .next s)
    ∧ ∀ (r : Recovery) (cause : StartCause) (next mark slot : Nat) (m x : State),
      s.journal.recovery = some r → r.toErase = [] → s.journal.op = none →
      next = (match r.highest with | none => 1 | some h => h + 17) →
      mark = max r.mark (s.journal.oldest - 1) →
      cause = (if s.journal.warm then .warm else if r.closedLast then .powerOnOrderly else .powerOnAbrupt) →
      slot = slotAfter s.journal.slots r.headSector →
      m = { s with
            position := { s.position with run := r.run }
            journal :=
              { s.journal with
                mode := .opened, full := none, headSector := r.headSector, headSlot := slot
                nextSeq := next + 1, mark := mark, control := none, recovery := none
                queue := [{ seq := next, time := s.position.clock, run := r.run
                            body := .started cause s.tables.activeGeneration }] } } →
      x = m.noticed
        (.started cause (some next) s.tables.activeIndex s.tables.activeGeneration s.tables.activeEpochDay r.headSector slot
          mark s.journal.highest s.journal.oldest r.erased s.supplyLow) →
      (s.journal.queue = [] → s.journal.waiting = [] →
        (next < 4294967295 → s.memory.resolutions = [] → exec .startedEntry s = .next (settle x))
        ∧ (∀ o more, next + 1 < 4294967295 → s.memory.resolutions = o :: more → exec .startedEntry s = .next (settle
          { (x.entered o.run (.consume o.tag o.key o.outcome)).noticed
              (.consumeResolved o.tag o.key o.outcome (tripOf s.memory.slots o.key) (some (next + 1))) with
            memory := { s.memory with resolutions := more }
            journal :=
              { (x.entered o.run (.consume o.tag o.key o.outcome)).journal with
                waiting := if more = [] then [] else [.memory] } }))
        ∧ (next = 4294967295 → s.memory.resolutions = [] →
          exec .startedEntry s = .next (settle x.exhausted)))
      ∧ (4294967295 < next → s.memory.resolutions = [] → exec .startedEntry s = .next (settle
          (({ m with journal := { m.journal with queue := s.journal.queue, nextSeq := 4294967296 } }.noticed
            (.started cause none s.tables.activeIndex s.tables.activeGeneration s.tables.activeEpochDay
              r.headSector slot mark s.journal.highest s.journal.oldest r.erased s.supplyLow)).exhausted)))

/-! ## The terminal link (chapter 09) -/

/-- CONFIG (R10, R12, R160): each value carried is moved into its range, the resume watermark below the hold watermark
that stands after the frame; the others stay; the response carries the six settings, and OK_CLAMPED when one was moved;
the flow-control step follows at the current depth. -/
def Obligations.ConfigSetsTheSettings : Prop :=
  ∀ (payload : List Byte) (v : ConfigValues) (n : Settings) (s : State), s.holdsFrame 80 payload →
    readConfig payload = some v →
    n.window = (match v.window with | none => s.settings.window | some x => min x 240) →
    n.policy = v.policy.getD s.settings.policy →
    n.burst = (match v.burst with | none => s.settings.burst | some x => max 1 (min x 16)) →
    n.volume = (match v.volume with | none => s.settings.volume | some x => min x 3) →
    n.hold = (match v.hold with | none => s.settings.hold | some x => max 4 (min x 13)) →
    n.resume = (match v.resume with
      | none => min s.settings.resume (n.hold - 1)
      | some x => max 1 (min x (n.hold - 1))) →
    ∃ st, exec .config s = .next (settle
        { s.answered 80 (Reply.with st
            (be1 n.window ++ be1 n.policy.wire ++ be1 n.burst ++ be1 n.volume ++ be1 n.hold ++ be1 n.resume)) with
          settings := n
          intake :=
            { s.intake with
              causes :=
                { s.intake.causes with
                  depth := if n.hold ≤ s.intake.queue.length then true
                    else if s.intake.queue.length ≤ n.resume then false
                    else s.intake.causes.depth } } })
      ∧ (st = .ok ∨ st = .okClamped)
      ∧ (st = .ok ↔ (∀ x, v.window = some x → x = n.window) ∧ (∀ x, v.burst = some x → x = n.burst)
          ∧ (∀ x, v.volume = some x → x = n.volume) ∧ (∀ x, v.hold = some x → x = n.hold)
          ∧ (∀ x, v.resume = some x → x = n.resume) ∧ (v.resume = none → n.resume = s.settings.resume))
      ∧ (s.settings.inRange = true → n.inRange = true)

/-- QUERY_STATUS, QUERY_DIRECTORY, QUERY_HISTORY and QUERY_MEMORY (R119, R161, R162): the reply is gathered at the
dispatch, the query's own entry in the response queue (log entry 37) and the authorities of STATUS in manifest order
(log entry 47), the bytes behind a presence byte of 0 as log entry 51 says, and nothing else changes. -/
def Obligations.QueriesReadTheState : Prop :=
  ∀ s : State,
    (s.holdsFrame 81 [1] → exec .queryStatus s = .next (settle
      ((s.awaited 81).filled 81 (Reply.with .ok (statusBytes (s.awaited 81))))))
    ∧ (s.holdsFrame 81 [2] → exec .queryDirectory s = .next (settle
      ((s.awaited 81).filled 81 (Reply.with .ok (directoryBytes s)))))
    ∧ (s.holdsFrame 81 [3] → exec .queryHistory s = .next (settle
      ((s.awaited 81).filled 81 (Reply.with .ok (historyBytes s)))))
    ∧ ∀ k0 k1 k2 k3 k4 : Byte, s.holdsFrame 81 [4, k0, k1, k2, k3, k4] → exec .queryMemory s = .next (settle
      ((s.awaited 81).filled 81 (Reply.with .ok (memoryBytes s (keyAt [k0, k1, k2, k3, k4] 0)))))

/-- RESTART, DRAIN_END and WARM_RESTART_EFFECT (R17, R58, R100, R125, R126, R144, R163, R164, R171): the dispatch puts
RESTARTING among the hold causes and drops the evaluation in flight with its pin and its entry still waiting; the end
of the drain gives RESTART its OK and every other response still pending BAD_STATE RESTARTED; and with the responses
and verdicts sent every block takes its values for a warm restart, the bank roles by the start-up choice, the clock, the
flash, the supply-low line and the reader's waiting tap results kept. A clearing that was deferred comes with the end of
the evaluation. That the bytes of a frame under way are kept, that the drain must still be at its end, what a CLEARED
notice carries and that it stands before HOLD_STATE is the model's reading (log entries 35, 19, 21 and 46), and so are that
a response ended RESTARTED carries no content, a held LOAD_OPEN's included (log entry 26), and the head, next number and
mark that the Journal has from the restart to the end of recovery (log entry 5). -/
def Obligations.RestartIsWarm : Prop :=
  ∀ s : State,
    (s.holdsFrame 82 [] →
      (s.evaluator = .idle → exec .restart s = .next (settle
        { s.awaited 82 with intake := { s.intake with causes := { s.intake.causes with restarting := true } } }))
      ∧ ∀ (c : EvalContext) (m : State), s.evaluator.context = some c →
        m = { s.awaited 82 with
              intake := { s.intake with causes := { s.intake.causes with restarting := true } }
              evaluator := .idle
              journal := { s.journal with waiting := s.journal.waiting.filter fun p => p != .evaluator }
              tables := match c.bank with
                | none => s.tables
                | some n => s.tables.setBank n
                    { s.tables.bank n with
                      pins := (s.tables.bank n).pins - 1
                      role := if (s.tables.bank n).role = .retiring ∧ (s.tables.bank n).pins - 1 = 0 then .staging
                        else (s.tables.bank n).role } } →
        (s.memory.clearDeferred = false → exec .restart s = .next (settle m))
        ∧ (s.memory.clearDeferred = true → s.port.notices.length ≤ 16 → s.port.dropped ≤ 255 →
          exec .restart s = .next (settle
            { m with
              memory := { s.memory with slots := [], pendingList := [], clearDeferred := false }
              port := m.moreNotices (s.memory.pendingList.map fun p =>
                { time := s.position.clock, body := .consumeResolved p.tag p.key .cleared none none }) })))
    ∧ (s.powered = true → s.intake.causes.restarting = true → s.journal.queue = [] → s.journal.waiting = [] →
      s.journal.op = none → s.tables.op = none → s.tables.checking = false → s.tables.commitDue = none →
      (({ cls := 82, reply := none } : Response) ∈ s.port.responses → exec .drainEnd s = .next (settle
        { s with
          port :=
            { s.port with
              responses := s.port.responses.map fun r =>
                if r.reply ≠ none then r
                else if r.cls = 82 then { r with reply := some (Reply.bare .ok) }
                else { r with reply := some { status := .badState, mark := .restarted, content := [] } } } }))
      ∧ (s.port.responses = [] → s.port.verdicts = [] → s.port.sending = none → ∃ T : TableStore,
        exec .warmRestartEffect s = .next (settle
          { State.reset with
            timeBase := s.timeBase, nextTick := s.nextTick, supplyLow := s.supplyLow, reader := s.reader
            intake := { State.reset.intake with
                        causes := { State.reset.intake.causes with safe := s.supplyLow } }
            position := { State.reset.position with
                          clock := s.position.clock, valid := s.position.valid, debt := s.position.debt }
            tables := T
            journal := { State.reset.journal with slots := s.journal.slots, warm := true }
            port := { State.reset.port with rx := s.port.rx }
            free := s.free, pending := s.pending })
        ∧ T = { TableStore.initial with
                bank0 := { s.tables.bank0 with role := T.bank0.role, pins := 0 }
                bank1 := { s.tables.bank1 with role := T.bank1.role, pins := 0 } }
        ∧ startRoles s.tables.bank0 s.tables.bank1 T.bank0.role T.bank1.role))

/-- TERMINAL_TX_DONE and the arbiter (R154, R156, R157, R158, R159): a response or verdict leaves its queue when its frame
has been sent; a free transmitter takes the produced response at the head, else the oldest verdict, else the oldest
notice with the dropped count, else the next entry of the export stream; a running burst goes on before all of
them. A transmitter that lets a warm restart take effect is left to it. When each kind of frame leaves its queue is the
model's reading (log entry 8), and so is that the restart comes before the arbiter (log entry 41). -/
def Obligations.ArbiterChooses : Prop :=
  (∀ (p : TerminalPort) (f : TermFrame) (s : State), s.powered = true → s.port.sending = some f →
    p = { s.port with
          sending := none
          responses := (match f with | .response _ _ => s.port.responses.tail | _ => s.port.responses)
          verdicts := (match f with | .verdict _ => s.port.verdicts.tail | _ => s.port.verdicts) } →
    exec .terminalTxDone s = .next (settle { s with port := p }))
  ∧ (∀ s : State, restartReady s = true → terminalTransmit s = s)
  ∧ ∀ s : State, s.port.sending = none → restartReady s = false →
    (∀ n q rest e, s.port.burst = some n → n < s.settings.burst → s.port.stream = q :: rest →
      entryOf s.journal.slots q = some e →
      terminalTransmit s
        = { s with port := { s.port with stream := rest, burst := some (n + 1), sending := some (.journalEntry e) } })
    ∧ ((s.port.burst = none ∨ s.port.stream = [] ∨ ∃ n, s.port.burst = some n ∧ s.settings.burst ≤ n) →
      (∀ c r rest, s.port.responses = { cls := c, reply := some r } :: rest →
        terminalTransmit s = { s with port := { s.port with burst := none, sending := some (.response c r) } })
      ∧ ((∀ x rest, s.port.responses = x :: rest → x.reply = none) →
        (∀ v rest, s.port.verdicts = v :: rest →
          terminalTransmit s = { s with port := { s.port with burst := none, sending := some (.verdict v) } })
        ∧ (s.port.verdicts = [] →
          (∀ n rest, s.port.notices = n :: rest →
            terminalTransmit s
              = { s with
                  port := { s.port with
                            burst := none, notices := rest, dropped := 0
                            sending := some (.notice n s.port.dropped) } })
          ∧ (s.port.notices = [] →
            (∀ q rest e, s.port.stream = q :: rest → entryOf s.journal.slots q = some e →
              terminalTransmit s
                = { s with
                    port := { s.port with stream := rest, burst := some 1, sending := some (.journalEntry e) } })
            ∧ (s.port.stream = [] → terminalTransmit s = { s with port := { s.port with burst := none } })))))

/-- R3, R22, R153, R173: a control frame whose payload is not well formed is dispatched and answered BAD_ARG, and nothing
else changes. That BAD_ARG comes before the owner's state is tested, which row takes a malformed QUERY or LOAD_COMMIT, and
the content of the answer are the model's (log entries 11, 10 and 26). -/
def Obligations.MalformedPayloadsAnswered : Prop :=
  ∀ (payload : List Byte) (s : State),
    ∀ x ∈ [(Instr.intakeFlush, 17, true, payload ≠ []), (.coach, 36, s.position.outgoing.isNone, payload.length ≠ 3),
      (.runStart, 37, s.position.outgoing.isNone, payload.length ≠ 2 ∨ payload = [0, 0]),
      (.loadOpen, 48, tablesReady s, readManifest payload = none
        ∨ ∃ raw, readManifest payload = some raw ∧ ∃ x ∈ raw.segs, x.kind < 1 ∨ 6 < x.kind ∨ 1 < x.placement),
      (.loadRecord, 49, tablesReady s, payload.length < 4), (.loadClose, 50, tablesReady s, payload ≠ []),
      (.loadCommitNow, 51, tablesReady s, commitModeNow payload = true ∧ payload.length ≠ 5),
      (.loadCommitTime, 51, tablesReady s, commitModeNow payload = false ∧ readCommitTime payload = none),
      (.loadAbandon, 52, tablesReady s, payload ≠ []),
      (.exportRead, 64, s.journal.control.isNone, readExportRead payload = none),
      (.exportMark, 65, s.journal.control.isNone, payload.length ≠ 4),
      (.note, 66, s.journal.control.isNone, payload.length ≠ 16),
      (.shutdown, 67, s.journal.control.isNone, payload ≠ []),
      (.config, 80, true, readConfig payload = none),
      (.queryStatus, 81, true, queryRow payload = 1 ∧ payload ≠ [1]),
      (.queryDirectory, 81, true, queryRow payload = 2 ∧ payload ≠ [2]),
      (.queryHistory, 81, true, queryRow payload = 3 ∧ payload ≠ [3]),
      (.queryMemory, 81, true, queryRow payload = 4 ∧ payload.length ≠ 6), (.restart, 82, true, payload ≠ [])],
      s.holdsFrame x.2.1 payload → x.2.2.1 = true → x.2.2.2 →
      ∃ content, exec x.1 s = .next (settle
        (s.answered x.2.1 { status := .badArg, mark := .none, content := content }))

/-! ## The Annunciator (chapter 10) -/

/-- R165, R168: the urgency of each class, and where a taken request goes: it starts when nothing plays, stops a playing
pattern of a lower urgency, joins a queue of fewer than 4, replaces the oldest waiting entry of a lower urgency, or is
dropped. -/
def Obligations.PatternTakesItsPlace : Prop :=
  (urgencyOf .reject = 3 ∧ urgencyOf .refer = 2 ∧ urgencyOf .supplementDue = 2 ∧ urgencyOf .accept = 1
    ∧ urgencyOf .acceptGrace = 1)
  ∧ ∀ (a : Annunciator) (now : Nat) (p : Pattern),
    (a.playing = none → a.take now p = { a with playing := some (startPattern now p) })
    ∧ ∀ cur, a.playing = some cur →
      (cur.pattern.urgency < p.urgency → a.take now p = { a with playing := some (startPattern now p) })
      ∧ (p.urgency ≤ cur.pattern.urgency →
        (a.queue.length < 4 → a.take now p = { a with queue := a.queue ++ [p] })
        ∧ (4 ≤ a.queue.length →
          (∀ before w after, a.queue = before ++ w :: after → w.urgency < p.urgency →
            (∀ x ∈ before, p.urgency ≤ x.urgency) → a.take now p = { a with queue := before ++ after ++ [p] })
          ∧ ((∀ x ∈ a.queue, p.urgency ≤ x.urgency) → a.take now p = a)))

/-- R167: a voice whose note has ended goes on to its next note, or falls silent. -/
def Sys2Proof.Machine.Voice.goesOn (v : Voice) : Voice :=
  match v.rest with
  | [] => Voice.silent
  | n :: more => { current := some n, endsAt := v.endsAt + 10 * n.duration, rest := more }

/-- R167: what NOTE_END leaves of a playing pattern `q` in which the voice whose note has ended has gone on: while a voice
sounds or no record is left, that pattern; else the next record begins at that moment. -/
def Sys2Proof.Machine.playsOn (s : State) (q : Playing) (at_ : Nat) : Prop :=
  ((q.voice1.current ≠ none ∨ q.voice2.current ≠ none ∨ q.voice3.current ≠ none ∨ q.records = []) →
    exec .noteEnd s = .next (settle
      { s with timeBase := max s.timeBase at_, annunciator := { s.annunciator with playing := some q } }))
  ∧ ∀ (r : List Note) (later : List (List Note)), q.voice1.current = none → q.voice2.current = none →
    q.voice3.current = none → q.records = r :: later →
    exec .noteEnd s = .next (settle
      { s with
        timeBase := max s.timeBase at_
        annunciator :=
          { s.annunciator with
            playing := some
              { q with
                voice1 := startVoice at_ (r.filter fun n => n.voice == 1)
                voice2 := startVoice at_ (r.filter fun n => n.voice == 2)
                voice3 := startVoice at_ (r.filter fun n => n.voice == 3)
                records := later } } })

/-- PATTERN_COMPLETION and NOTE_END (R167, R169): at the completion the most urgent waiting entry, the oldest of its
urgency, leaves the queue and plays, or nothing plays; when the note of a voice ends, that voice goes on to its next note
or falls silent while the others play on, and when no voice is left the next record starts. Which note ends next of
several, and that the time base moves to the end of a note or pattern when it lies ahead, is the model's choice (log
entries 25 and 3). -/
def Obligations.PatternsPlayOn : Prop :=
  ∀ (p : Playing) (s : State), s.powered = true → s.annunciator.playing = some p →
    (s.annunciator.queue = [] → exec .patternCompletion s = .next (settle
      { s with timeBase := max s.timeBase p.finish, annunciator := { playing := none, queue := [] } }))
    ∧ (∀ before w after, s.annunciator.queue = before ++ w :: after → (∀ x ∈ before, x.urgency < w.urgency) →
      (∀ x ∈ after, x.urgency ≤ w.urgency) → exec .patternCompletion s = .next (settle
        { s with
          timeBase := max s.timeBase p.finish
          annunciator := { playing := some (startPattern p.finish w), queue := before ++ after } }))
    ∧ (p.voice1.current ≠ none →
      (p.voice2.current = none ∨ p.voice1.endsAt ≤ p.voice2.endsAt) →
      (p.voice3.current = none ∨ p.voice1.endsAt ≤ p.voice3.endsAt) →
      playsOn s { p with voice1 := p.voice1.goesOn } p.voice1.endsAt)
    ∧ (p.voice2.current ≠ none →
      (p.voice1.current = none ∨ p.voice2.endsAt < p.voice1.endsAt) →
      (p.voice3.current = none ∨ p.voice2.endsAt ≤ p.voice3.endsAt) →
      playsOn s { p with voice2 := p.voice2.goesOn } p.voice2.endsAt)
    ∧ (p.voice3.current ≠ none →
      (p.voice1.current = none ∨ p.voice3.endsAt < p.voice1.endsAt) →
      (p.voice2.current = none ∨ p.voice3.endsAt < p.voice2.endsAt) →
      playsOn s { p with voice3 := p.voice3.goesOn } p.voice3.endsAt)
end

