-- ==== Sys2Proof/Laws/State.lean ====
section
/-! SUPPORT. One lemma for each field of each block replaced: what the replacement leaves and what it sets. -/

namespace Sys2Proof.Machine

/-! ## setSettings -/

@[simp] theorem State.setSettings_powered (x : Settings) (s : State) : (s.setSettings x).powered = s.powered := rfl
@[simp] theorem State.setSettings_timeBase (x : Settings) (s : State) : (s.setSettings x).timeBase = s.timeBase := rfl
@[simp] theorem State.setSettings_nextTick (x : Settings) (s : State) : (s.setSettings x).nextTick = s.nextTick := rfl
@[simp] theorem State.setSettings_supplyLow (x : Settings) (s : State) : (s.setSettings x).supplyLow = s.supplyLow := rfl
@[simp] theorem State.setSettings_settings (x : Settings) (s : State) : (s.setSettings x).settings = x := rfl
@[simp] theorem State.setSettings_reader (x : Settings) (s : State) : (s.setSettings x).reader = s.reader := rfl
@[simp] theorem State.setSettings_intake (x : Settings) (s : State) : (s.setSettings x).intake = s.intake := rfl
@[simp] theorem State.setSettings_position (x : Settings) (s : State) : (s.setSettings x).position = s.position := rfl
@[simp] theorem State.setSettings_tables (x : Settings) (s : State) : (s.setSettings x).tables = s.tables := rfl
@[simp] theorem State.setSettings_evaluator (x : Settings) (s : State) : (s.setSettings x).evaluator = s.evaluator := rfl
@[simp] theorem State.setSettings_memory (x : Settings) (s : State) : (s.setSettings x).memory = s.memory := rfl
@[simp] theorem State.setSettings_journal (x : Settings) (s : State) : (s.setSettings x).journal = s.journal := rfl
@[simp] theorem State.setSettings_port (x : Settings) (s : State) : (s.setSettings x).port = s.port := rfl
@[simp] theorem State.setSettings_annunciator (x : Settings) (s : State) : (s.setSettings x).annunciator = s.annunciator := rfl
@[simp] theorem State.setSettings_free (x : Settings) (s : State) : (s.setSettings x).free = s.free := rfl
@[simp] theorem State.setSettings_pending (x : Settings) (s : State) : (s.setSettings x).pending = s.pending := rfl

/-! ## setReader -/

@[simp] theorem State.setReader_powered (x : ReaderPort) (s : State) : (s.setReader x).powered = s.powered := rfl
@[simp] theorem State.setReader_timeBase (x : ReaderPort) (s : State) : (s.setReader x).timeBase = s.timeBase := rfl
@[simp] theorem State.setReader_nextTick (x : ReaderPort) (s : State) : (s.setReader x).nextTick = s.nextTick := rfl
@[simp] theorem State.setReader_supplyLow (x : ReaderPort) (s : State) : (s.setReader x).supplyLow = s.supplyLow := rfl
@[simp] theorem State.setReader_settings (x : ReaderPort) (s : State) : (s.setReader x).settings = s.settings := rfl
@[simp] theorem State.setReader_reader (x : ReaderPort) (s : State) : (s.setReader x).reader = x := rfl
@[simp] theorem State.setReader_intake (x : ReaderPort) (s : State) : (s.setReader x).intake = s.intake := rfl
@[simp] theorem State.setReader_position (x : ReaderPort) (s : State) : (s.setReader x).position = s.position := rfl
@[simp] theorem State.setReader_tables (x : ReaderPort) (s : State) : (s.setReader x).tables = s.tables := rfl
@[simp] theorem State.setReader_evaluator (x : ReaderPort) (s : State) : (s.setReader x).evaluator = s.evaluator := rfl
@[simp] theorem State.setReader_memory (x : ReaderPort) (s : State) : (s.setReader x).memory = s.memory := rfl
@[simp] theorem State.setReader_journal (x : ReaderPort) (s : State) : (s.setReader x).journal = s.journal := rfl
@[simp] theorem State.setReader_port (x : ReaderPort) (s : State) : (s.setReader x).port = s.port := rfl
@[simp] theorem State.setReader_annunciator (x : ReaderPort) (s : State) : (s.setReader x).annunciator = s.annunciator := rfl
@[simp] theorem State.setReader_free (x : ReaderPort) (s : State) : (s.setReader x).free = s.free := rfl
@[simp] theorem State.setReader_pending (x : ReaderPort) (s : State) : (s.setReader x).pending = s.pending := rfl

/-! ## setIntake -/

@[simp] theorem State.setIntake_powered (x : IntakeQueue) (s : State) : (s.setIntake x).powered = s.powered := rfl
@[simp] theorem State.setIntake_timeBase (x : IntakeQueue) (s : State) : (s.setIntake x).timeBase = s.timeBase := rfl
@[simp] theorem State.setIntake_nextTick (x : IntakeQueue) (s : State) : (s.setIntake x).nextTick = s.nextTick := rfl
@[simp] theorem State.setIntake_supplyLow (x : IntakeQueue) (s : State) : (s.setIntake x).supplyLow = s.supplyLow := rfl
@[simp] theorem State.setIntake_settings (x : IntakeQueue) (s : State) : (s.setIntake x).settings = s.settings := rfl
@[simp] theorem State.setIntake_reader (x : IntakeQueue) (s : State) : (s.setIntake x).reader = s.reader := rfl
@[simp] theorem State.setIntake_intake (x : IntakeQueue) (s : State) : (s.setIntake x).intake = x := rfl
@[simp] theorem State.setIntake_position (x : IntakeQueue) (s : State) : (s.setIntake x).position = s.position := rfl
@[simp] theorem State.setIntake_tables (x : IntakeQueue) (s : State) : (s.setIntake x).tables = s.tables := rfl
@[simp] theorem State.setIntake_evaluator (x : IntakeQueue) (s : State) : (s.setIntake x).evaluator = s.evaluator := rfl
@[simp] theorem State.setIntake_memory (x : IntakeQueue) (s : State) : (s.setIntake x).memory = s.memory := rfl
@[simp] theorem State.setIntake_journal (x : IntakeQueue) (s : State) : (s.setIntake x).journal = s.journal := rfl
@[simp] theorem State.setIntake_port (x : IntakeQueue) (s : State) : (s.setIntake x).port = s.port := rfl
@[simp] theorem State.setIntake_annunciator (x : IntakeQueue) (s : State) : (s.setIntake x).annunciator = s.annunciator := rfl
@[simp] theorem State.setIntake_free (x : IntakeQueue) (s : State) : (s.setIntake x).free = s.free := rfl
@[simp] theorem State.setIntake_pending (x : IntakeQueue) (s : State) : (s.setIntake x).pending = s.pending := rfl

/-! ## setPosition -/

@[simp] theorem State.setPosition_powered (x : PositionUnit) (s : State) : (s.setPosition x).powered = s.powered := rfl
@[simp] theorem State.setPosition_timeBase (x : PositionUnit) (s : State) : (s.setPosition x).timeBase = s.timeBase := rfl
@[simp] theorem State.setPosition_nextTick (x : PositionUnit) (s : State) : (s.setPosition x).nextTick = s.nextTick := rfl
@[simp] theorem State.setPosition_supplyLow (x : PositionUnit) (s : State) : (s.setPosition x).supplyLow = s.supplyLow := rfl
@[simp] theorem State.setPosition_settings (x : PositionUnit) (s : State) : (s.setPosition x).settings = s.settings := rfl
@[simp] theorem State.setPosition_reader (x : PositionUnit) (s : State) : (s.setPosition x).reader = s.reader := rfl
@[simp] theorem State.setPosition_intake (x : PositionUnit) (s : State) : (s.setPosition x).intake = s.intake := rfl
@[simp] theorem State.setPosition_position (x : PositionUnit) (s : State) : (s.setPosition x).position = x := rfl
@[simp] theorem State.setPosition_tables (x : PositionUnit) (s : State) : (s.setPosition x).tables = s.tables := rfl
@[simp] theorem State.setPosition_evaluator (x : PositionUnit) (s : State) : (s.setPosition x).evaluator = s.evaluator := rfl
@[simp] theorem State.setPosition_memory (x : PositionUnit) (s : State) : (s.setPosition x).memory = s.memory := rfl
@[simp] theorem State.setPosition_journal (x : PositionUnit) (s : State) : (s.setPosition x).journal = s.journal := rfl
@[simp] theorem State.setPosition_port (x : PositionUnit) (s : State) : (s.setPosition x).port = s.port := rfl
@[simp] theorem State.setPosition_annunciator (x : PositionUnit) (s : State) : (s.setPosition x).annunciator = s.annunciator := rfl
@[simp] theorem State.setPosition_free (x : PositionUnit) (s : State) : (s.setPosition x).free = s.free := rfl
@[simp] theorem State.setPosition_pending (x : PositionUnit) (s : State) : (s.setPosition x).pending = s.pending := rfl

/-! ## setTables -/

@[simp] theorem State.setTables_powered (x : TableStore) (s : State) : (s.setTables x).powered = s.powered := rfl
@[simp] theorem State.setTables_timeBase (x : TableStore) (s : State) : (s.setTables x).timeBase = s.timeBase := rfl
@[simp] theorem State.setTables_nextTick (x : TableStore) (s : State) : (s.setTables x).nextTick = s.nextTick := rfl
@[simp] theorem State.setTables_supplyLow (x : TableStore) (s : State) : (s.setTables x).supplyLow = s.supplyLow := rfl
@[simp] theorem State.setTables_settings (x : TableStore) (s : State) : (s.setTables x).settings = s.settings := rfl
@[simp] theorem State.setTables_reader (x : TableStore) (s : State) : (s.setTables x).reader = s.reader := rfl
@[simp] theorem State.setTables_intake (x : TableStore) (s : State) : (s.setTables x).intake = s.intake := rfl
@[simp] theorem State.setTables_position (x : TableStore) (s : State) : (s.setTables x).position = s.position := rfl
@[simp] theorem State.setTables_tables (x : TableStore) (s : State) : (s.setTables x).tables = x := rfl
@[simp] theorem State.setTables_evaluator (x : TableStore) (s : State) : (s.setTables x).evaluator = s.evaluator := rfl
@[simp] theorem State.setTables_memory (x : TableStore) (s : State) : (s.setTables x).memory = s.memory := rfl
@[simp] theorem State.setTables_journal (x : TableStore) (s : State) : (s.setTables x).journal = s.journal := rfl
@[simp] theorem State.setTables_port (x : TableStore) (s : State) : (s.setTables x).port = s.port := rfl
@[simp] theorem State.setTables_annunciator (x : TableStore) (s : State) : (s.setTables x).annunciator = s.annunciator := rfl
@[simp] theorem State.setTables_free (x : TableStore) (s : State) : (s.setTables x).free = s.free := rfl
@[simp] theorem State.setTables_pending (x : TableStore) (s : State) : (s.setTables x).pending = s.pending := rfl

/-! ## setEvaluator -/

@[simp] theorem State.setEvaluator_powered (x : Evaluator) (s : State) : (s.setEvaluator x).powered = s.powered := rfl
@[simp] theorem State.setEvaluator_timeBase (x : Evaluator) (s : State) : (s.setEvaluator x).timeBase = s.timeBase := rfl
@[simp] theorem State.setEvaluator_nextTick (x : Evaluator) (s : State) : (s.setEvaluator x).nextTick = s.nextTick := rfl
@[simp] theorem State.setEvaluator_supplyLow (x : Evaluator) (s : State) : (s.setEvaluator x).supplyLow = s.supplyLow := rfl
@[simp] theorem State.setEvaluator_settings (x : Evaluator) (s : State) : (s.setEvaluator x).settings = s.settings := rfl
@[simp] theorem State.setEvaluator_reader (x : Evaluator) (s : State) : (s.setEvaluator x).reader = s.reader := rfl
@[simp] theorem State.setEvaluator_intake (x : Evaluator) (s : State) : (s.setEvaluator x).intake = s.intake := rfl
@[simp] theorem State.setEvaluator_position (x : Evaluator) (s : State) : (s.setEvaluator x).position = s.position := rfl
@[simp] theorem State.setEvaluator_tables (x : Evaluator) (s : State) : (s.setEvaluator x).tables = s.tables := rfl
@[simp] theorem State.setEvaluator_evaluator (x : Evaluator) (s : State) : (s.setEvaluator x).evaluator = x := rfl
@[simp] theorem State.setEvaluator_memory (x : Evaluator) (s : State) : (s.setEvaluator x).memory = s.memory := rfl
@[simp] theorem State.setEvaluator_journal (x : Evaluator) (s : State) : (s.setEvaluator x).journal = s.journal := rfl
@[simp] theorem State.setEvaluator_port (x : Evaluator) (s : State) : (s.setEvaluator x).port = s.port := rfl
@[simp] theorem State.setEvaluator_annunciator (x : Evaluator) (s : State) : (s.setEvaluator x).annunciator = s.annunciator := rfl
@[simp] theorem State.setEvaluator_free (x : Evaluator) (s : State) : (s.setEvaluator x).free = s.free := rfl
@[simp] theorem State.setEvaluator_pending (x : Evaluator) (s : State) : (s.setEvaluator x).pending = s.pending := rfl

/-! ## setMemory -/

@[simp] theorem State.setMemory_powered (x : InspectionMemory) (s : State) : (s.setMemory x).powered = s.powered := rfl
@[simp] theorem State.setMemory_timeBase (x : InspectionMemory) (s : State) : (s.setMemory x).timeBase = s.timeBase := rfl
@[simp] theorem State.setMemory_nextTick (x : InspectionMemory) (s : State) : (s.setMemory x).nextTick = s.nextTick := rfl
@[simp] theorem State.setMemory_supplyLow (x : InspectionMemory) (s : State) : (s.setMemory x).supplyLow = s.supplyLow := rfl
@[simp] theorem State.setMemory_settings (x : InspectionMemory) (s : State) : (s.setMemory x).settings = s.settings := rfl
@[simp] theorem State.setMemory_reader (x : InspectionMemory) (s : State) : (s.setMemory x).reader = s.reader := rfl
@[simp] theorem State.setMemory_intake (x : InspectionMemory) (s : State) : (s.setMemory x).intake = s.intake := rfl
@[simp] theorem State.setMemory_position (x : InspectionMemory) (s : State) : (s.setMemory x).position = s.position := rfl
@[simp] theorem State.setMemory_tables (x : InspectionMemory) (s : State) : (s.setMemory x).tables = s.tables := rfl
@[simp] theorem State.setMemory_evaluator (x : InspectionMemory) (s : State) : (s.setMemory x).evaluator = s.evaluator := rfl
@[simp] theorem State.setMemory_memory (x : InspectionMemory) (s : State) : (s.setMemory x).memory = x := rfl
@[simp] theorem State.setMemory_journal (x : InspectionMemory) (s : State) : (s.setMemory x).journal = s.journal := rfl
@[simp] theorem State.setMemory_port (x : InspectionMemory) (s : State) : (s.setMemory x).port = s.port := rfl
@[simp] theorem State.setMemory_annunciator (x : InspectionMemory) (s : State) : (s.setMemory x).annunciator = s.annunciator := rfl
@[simp] theorem State.setMemory_free (x : InspectionMemory) (s : State) : (s.setMemory x).free = s.free := rfl
@[simp] theorem State.setMemory_pending (x : InspectionMemory) (s : State) : (s.setMemory x).pending = s.pending := rfl

/-! ## setJournal -/

@[simp] theorem State.setJournal_powered (x : Journal) (s : State) : (s.setJournal x).powered = s.powered := rfl
@[simp] theorem State.setJournal_timeBase (x : Journal) (s : State) : (s.setJournal x).timeBase = s.timeBase := rfl
@[simp] theorem State.setJournal_nextTick (x : Journal) (s : State) : (s.setJournal x).nextTick = s.nextTick := rfl
@[simp] theorem State.setJournal_supplyLow (x : Journal) (s : State) : (s.setJournal x).supplyLow = s.supplyLow := rfl
@[simp] theorem State.setJournal_settings (x : Journal) (s : State) : (s.setJournal x).settings = s.settings := rfl
@[simp] theorem State.setJournal_reader (x : Journal) (s : State) : (s.setJournal x).reader = s.reader := rfl
@[simp] theorem State.setJournal_intake (x : Journal) (s : State) : (s.setJournal x).intake = s.intake := rfl
@[simp] theorem State.setJournal_position (x : Journal) (s : State) : (s.setJournal x).position = s.position := rfl
@[simp] theorem State.setJournal_tables (x : Journal) (s : State) : (s.setJournal x).tables = s.tables := rfl
@[simp] theorem State.setJournal_evaluator (x : Journal) (s : State) : (s.setJournal x).evaluator = s.evaluator := rfl
@[simp] theorem State.setJournal_memory (x : Journal) (s : State) : (s.setJournal x).memory = s.memory := rfl
@[simp] theorem State.setJournal_journal (x : Journal) (s : State) : (s.setJournal x).journal = x := rfl
@[simp] theorem State.setJournal_port (x : Journal) (s : State) : (s.setJournal x).port = s.port := rfl
@[simp] theorem State.setJournal_annunciator (x : Journal) (s : State) : (s.setJournal x).annunciator = s.annunciator := rfl
@[simp] theorem State.setJournal_free (x : Journal) (s : State) : (s.setJournal x).free = s.free := rfl
@[simp] theorem State.setJournal_pending (x : Journal) (s : State) : (s.setJournal x).pending = s.pending := rfl

/-! ## setPort -/

@[simp] theorem State.setPort_powered (x : TerminalPort) (s : State) : (s.setPort x).powered = s.powered := rfl
@[simp] theorem State.setPort_timeBase (x : TerminalPort) (s : State) : (s.setPort x).timeBase = s.timeBase := rfl
@[simp] theorem State.setPort_nextTick (x : TerminalPort) (s : State) : (s.setPort x).nextTick = s.nextTick := rfl
@[simp] theorem State.setPort_supplyLow (x : TerminalPort) (s : State) : (s.setPort x).supplyLow = s.supplyLow := rfl
@[simp] theorem State.setPort_settings (x : TerminalPort) (s : State) : (s.setPort x).settings = s.settings := rfl
@[simp] theorem State.setPort_reader (x : TerminalPort) (s : State) : (s.setPort x).reader = s.reader := rfl
@[simp] theorem State.setPort_intake (x : TerminalPort) (s : State) : (s.setPort x).intake = s.intake := rfl
@[simp] theorem State.setPort_position (x : TerminalPort) (s : State) : (s.setPort x).position = s.position := rfl
@[simp] theorem State.setPort_tables (x : TerminalPort) (s : State) : (s.setPort x).tables = s.tables := rfl
@[simp] theorem State.setPort_evaluator (x : TerminalPort) (s : State) : (s.setPort x).evaluator = s.evaluator := rfl
@[simp] theorem State.setPort_memory (x : TerminalPort) (s : State) : (s.setPort x).memory = s.memory := rfl
@[simp] theorem State.setPort_journal (x : TerminalPort) (s : State) : (s.setPort x).journal = s.journal := rfl
@[simp] theorem State.setPort_port (x : TerminalPort) (s : State) : (s.setPort x).port = x := rfl
@[simp] theorem State.setPort_annunciator (x : TerminalPort) (s : State) : (s.setPort x).annunciator = s.annunciator := rfl
@[simp] theorem State.setPort_free (x : TerminalPort) (s : State) : (s.setPort x).free = s.free := rfl
@[simp] theorem State.setPort_pending (x : TerminalPort) (s : State) : (s.setPort x).pending = s.pending := rfl

/-! ## setAnnunciator -/

@[simp] theorem State.setAnnunciator_powered (x : Annunciator) (s : State) : (s.setAnnunciator x).powered = s.powered := rfl
@[simp] theorem State.setAnnunciator_timeBase (x : Annunciator) (s : State) : (s.setAnnunciator x).timeBase = s.timeBase := rfl
@[simp] theorem State.setAnnunciator_nextTick (x : Annunciator) (s : State) : (s.setAnnunciator x).nextTick = s.nextTick := rfl
@[simp] theorem State.setAnnunciator_supplyLow (x : Annunciator) (s : State) : (s.setAnnunciator x).supplyLow = s.supplyLow := rfl
@[simp] theorem State.setAnnunciator_settings (x : Annunciator) (s : State) : (s.setAnnunciator x).settings = s.settings := rfl
@[simp] theorem State.setAnnunciator_reader (x : Annunciator) (s : State) : (s.setAnnunciator x).reader = s.reader := rfl
@[simp] theorem State.setAnnunciator_intake (x : Annunciator) (s : State) : (s.setAnnunciator x).intake = s.intake := rfl
@[simp] theorem State.setAnnunciator_position (x : Annunciator) (s : State) : (s.setAnnunciator x).position = s.position := rfl
@[simp] theorem State.setAnnunciator_tables (x : Annunciator) (s : State) : (s.setAnnunciator x).tables = s.tables := rfl
@[simp] theorem State.setAnnunciator_evaluator (x : Annunciator) (s : State) : (s.setAnnunciator x).evaluator = s.evaluator := rfl
@[simp] theorem State.setAnnunciator_memory (x : Annunciator) (s : State) : (s.setAnnunciator x).memory = s.memory := rfl
@[simp] theorem State.setAnnunciator_journal (x : Annunciator) (s : State) : (s.setAnnunciator x).journal = s.journal := rfl
@[simp] theorem State.setAnnunciator_port (x : Annunciator) (s : State) : (s.setAnnunciator x).port = s.port := rfl
@[simp] theorem State.setAnnunciator_annunciator (x : Annunciator) (s : State) : (s.setAnnunciator x).annunciator = x := rfl
@[simp] theorem State.setAnnunciator_free (x : Annunciator) (s : State) : (s.setAnnunciator x).free = s.free := rfl
@[simp] theorem State.setAnnunciator_pending (x : Annunciator) (s : State) : (s.setAnnunciator x).pending = s.pending := rfl

/-! ## setTimeBase -/

@[simp] theorem State.setTimeBase_powered (x : Nat) (s : State) : (s.setTimeBase x).powered = s.powered := rfl
@[simp] theorem State.setTimeBase_timeBase (x : Nat) (s : State) : (s.setTimeBase x).timeBase = x := rfl
@[simp] theorem State.setTimeBase_nextTick (x : Nat) (s : State) : (s.setTimeBase x).nextTick = s.nextTick := rfl
@[simp] theorem State.setTimeBase_supplyLow (x : Nat) (s : State) : (s.setTimeBase x).supplyLow = s.supplyLow := rfl
@[simp] theorem State.setTimeBase_settings (x : Nat) (s : State) : (s.setTimeBase x).settings = s.settings := rfl
@[simp] theorem State.setTimeBase_reader (x : Nat) (s : State) : (s.setTimeBase x).reader = s.reader := rfl
@[simp] theorem State.setTimeBase_intake (x : Nat) (s : State) : (s.setTimeBase x).intake = s.intake := rfl
@[simp] theorem State.setTimeBase_position (x : Nat) (s : State) : (s.setTimeBase x).position = s.position := rfl
@[simp] theorem State.setTimeBase_tables (x : Nat) (s : State) : (s.setTimeBase x).tables = s.tables := rfl
@[simp] theorem State.setTimeBase_evaluator (x : Nat) (s : State) : (s.setTimeBase x).evaluator = s.evaluator := rfl
@[simp] theorem State.setTimeBase_memory (x : Nat) (s : State) : (s.setTimeBase x).memory = s.memory := rfl
@[simp] theorem State.setTimeBase_journal (x : Nat) (s : State) : (s.setTimeBase x).journal = s.journal := rfl
@[simp] theorem State.setTimeBase_port (x : Nat) (s : State) : (s.setTimeBase x).port = s.port := rfl
@[simp] theorem State.setTimeBase_annunciator (x : Nat) (s : State) : (s.setTimeBase x).annunciator = s.annunciator := rfl
@[simp] theorem State.setTimeBase_free (x : Nat) (s : State) : (s.setTimeBase x).free = s.free := rfl
@[simp] theorem State.setTimeBase_pending (x : Nat) (s : State) : (s.setTimeBase x).pending = s.pending := rfl

/-! ## setNextTick -/

@[simp] theorem State.setNextTick_powered (x : Nat) (s : State) : (s.setNextTick x).powered = s.powered := rfl
@[simp] theorem State.setNextTick_timeBase (x : Nat) (s : State) : (s.setNextTick x).timeBase = s.timeBase := rfl
@[simp] theorem State.setNextTick_nextTick (x : Nat) (s : State) : (s.setNextTick x).nextTick = x := rfl
@[simp] theorem State.setNextTick_supplyLow (x : Nat) (s : State) : (s.setNextTick x).supplyLow = s.supplyLow := rfl
@[simp] theorem State.setNextTick_settings (x : Nat) (s : State) : (s.setNextTick x).settings = s.settings := rfl
@[simp] theorem State.setNextTick_reader (x : Nat) (s : State) : (s.setNextTick x).reader = s.reader := rfl
@[simp] theorem State.setNextTick_intake (x : Nat) (s : State) : (s.setNextTick x).intake = s.intake := rfl
@[simp] theorem State.setNextTick_position (x : Nat) (s : State) : (s.setNextTick x).position = s.position := rfl
@[simp] theorem State.setNextTick_tables (x : Nat) (s : State) : (s.setNextTick x).tables = s.tables := rfl
@[simp] theorem State.setNextTick_evaluator (x : Nat) (s : State) : (s.setNextTick x).evaluator = s.evaluator := rfl
@[simp] theorem State.setNextTick_memory (x : Nat) (s : State) : (s.setNextTick x).memory = s.memory := rfl
@[simp] theorem State.setNextTick_journal (x : Nat) (s : State) : (s.setNextTick x).journal = s.journal := rfl
@[simp] theorem State.setNextTick_port (x : Nat) (s : State) : (s.setNextTick x).port = s.port := rfl
@[simp] theorem State.setNextTick_annunciator (x : Nat) (s : State) : (s.setNextTick x).annunciator = s.annunciator := rfl
@[simp] theorem State.setNextTick_free (x : Nat) (s : State) : (s.setNextTick x).free = s.free := rfl
@[simp] theorem State.setNextTick_pending (x : Nat) (s : State) : (s.setNextTick x).pending = s.pending := rfl

/-! ## setSupplyLow -/

@[simp] theorem State.setSupplyLow_powered (x : Bool) (s : State) : (s.setSupplyLow x).powered = s.powered := rfl
@[simp] theorem State.setSupplyLow_timeBase (x : Bool) (s : State) : (s.setSupplyLow x).timeBase = s.timeBase := rfl
@[simp] theorem State.setSupplyLow_nextTick (x : Bool) (s : State) : (s.setSupplyLow x).nextTick = s.nextTick := rfl
@[simp] theorem State.setSupplyLow_supplyLow (x : Bool) (s : State) : (s.setSupplyLow x).supplyLow = x := rfl
@[simp] theorem State.setSupplyLow_settings (x : Bool) (s : State) : (s.setSupplyLow x).settings = s.settings := rfl
@[simp] theorem State.setSupplyLow_reader (x : Bool) (s : State) : (s.setSupplyLow x).reader = s.reader := rfl
@[simp] theorem State.setSupplyLow_intake (x : Bool) (s : State) : (s.setSupplyLow x).intake = s.intake := rfl
@[simp] theorem State.setSupplyLow_position (x : Bool) (s : State) : (s.setSupplyLow x).position = s.position := rfl
@[simp] theorem State.setSupplyLow_tables (x : Bool) (s : State) : (s.setSupplyLow x).tables = s.tables := rfl
@[simp] theorem State.setSupplyLow_evaluator (x : Bool) (s : State) : (s.setSupplyLow x).evaluator = s.evaluator := rfl
@[simp] theorem State.setSupplyLow_memory (x : Bool) (s : State) : (s.setSupplyLow x).memory = s.memory := rfl
@[simp] theorem State.setSupplyLow_journal (x : Bool) (s : State) : (s.setSupplyLow x).journal = s.journal := rfl
@[simp] theorem State.setSupplyLow_port (x : Bool) (s : State) : (s.setSupplyLow x).port = s.port := rfl
@[simp] theorem State.setSupplyLow_annunciator (x : Bool) (s : State) : (s.setSupplyLow x).annunciator = s.annunciator := rfl
@[simp] theorem State.setSupplyLow_free (x : Bool) (s : State) : (s.setSupplyLow x).free = s.free := rfl
@[simp] theorem State.setSupplyLow_pending (x : Bool) (s : State) : (s.setSupplyLow x).pending = s.pending := rfl

/-! ## setPending -/

@[simp] theorem State.setPending_powered (x : List Instr) (s : State) : (s.setPending x).powered = s.powered := rfl
@[simp] theorem State.setPending_timeBase (x : List Instr) (s : State) : (s.setPending x).timeBase = s.timeBase := rfl
@[simp] theorem State.setPending_nextTick (x : List Instr) (s : State) : (s.setPending x).nextTick = s.nextTick := rfl
@[simp] theorem State.setPending_supplyLow (x : List Instr) (s : State) : (s.setPending x).supplyLow = s.supplyLow := rfl
@[simp] theorem State.setPending_settings (x : List Instr) (s : State) : (s.setPending x).settings = s.settings := rfl
@[simp] theorem State.setPending_reader (x : List Instr) (s : State) : (s.setPending x).reader = s.reader := rfl
@[simp] theorem State.setPending_intake (x : List Instr) (s : State) : (s.setPending x).intake = s.intake := rfl
@[simp] theorem State.setPending_position (x : List Instr) (s : State) : (s.setPending x).position = s.position := rfl
@[simp] theorem State.setPending_tables (x : List Instr) (s : State) : (s.setPending x).tables = s.tables := rfl
@[simp] theorem State.setPending_evaluator (x : List Instr) (s : State) : (s.setPending x).evaluator = s.evaluator := rfl
@[simp] theorem State.setPending_memory (x : List Instr) (s : State) : (s.setPending x).memory = s.memory := rfl
@[simp] theorem State.setPending_journal (x : List Instr) (s : State) : (s.setPending x).journal = s.journal := rfl
@[simp] theorem State.setPending_port (x : List Instr) (s : State) : (s.setPending x).port = s.port := rfl
@[simp] theorem State.setPending_annunciator (x : List Instr) (s : State) : (s.setPending x).annunciator = s.annunciator := rfl
@[simp] theorem State.setPending_free (x : List Instr) (s : State) : (s.setPending x).free = s.free := rfl
@[simp] theorem State.setPending_pending (x : List Instr) (s : State) : (s.setPending x).pending = x := rfl

/-! ## nextFree -/

@[simp] theorem State.nextFree_powered (s : State) : s.nextFree.powered = s.powered := rfl
@[simp] theorem State.nextFree_timeBase (s : State) : s.nextFree.timeBase = s.timeBase := rfl
@[simp] theorem State.nextFree_nextTick (s : State) : s.nextFree.nextTick = s.nextTick := rfl
@[simp] theorem State.nextFree_supplyLow (s : State) : s.nextFree.supplyLow = s.supplyLow := rfl
@[simp] theorem State.nextFree_settings (s : State) : s.nextFree.settings = s.settings := rfl
@[simp] theorem State.nextFree_reader (s : State) : s.nextFree.reader = s.reader := rfl
@[simp] theorem State.nextFree_intake (s : State) : s.nextFree.intake = s.intake := rfl
@[simp] theorem State.nextFree_position (s : State) : s.nextFree.position = s.position := rfl
@[simp] theorem State.nextFree_tables (s : State) : s.nextFree.tables = s.tables := rfl
@[simp] theorem State.nextFree_evaluator (s : State) : s.nextFree.evaluator = s.evaluator := rfl
@[simp] theorem State.nextFree_memory (s : State) : s.nextFree.memory = s.memory := rfl
@[simp] theorem State.nextFree_journal (s : State) : s.nextFree.journal = s.journal := rfl
@[simp] theorem State.nextFree_port (s : State) : s.nextFree.port = s.port := rfl
@[simp] theorem State.nextFree_annunciator (s : State) : s.nextFree.annunciator = s.annunciator := rfl
@[simp] theorem State.nextFree_free (s : State) : s.nextFree.free = s.free + 1 := rfl
@[simp] theorem State.nextFree_pending (s : State) : s.nextFree.pending = s.pending := rfl

end Sys2Proof.Machine
end

