-- ==== Sys2Proof/Laws/Ops.lean ====
section
/-! SUPPORT. What each shared operation can do: which blocks it leaves alone, and what it does to the others. -/

namespace Sys2Proof.Machine

/-! ## Notices, responses and tap results -/

/-- A notice changes the port's notice queue and dropped count only. -/
theorem notice_eq (b : NoticeBody) (s : State) :
    notice b s = s.setPort (s.port.addNotice { time := s.position.clock, body := b }) := rfl

theorem addNotice_eq (p : TerminalPort) (n : Notice) (h : p.notices.length ≤ 16) (hd : p.dropped ≤ 255) :
    p.addNotice n = { p with notices := (p.notices ++ [n]).take 16,
                             dropped := min 255 (p.dropped + (p.notices.length + 1 - 16)) } := by
  unfold TerminalPort.addNotice noticeLimit
  split
  · rename_i hlt
    have h1 : (p.notices ++ [n]).take 16 = p.notices ++ [n] := List.take_of_length_le (by simp; omega)
    have h2 : min 255 (p.dropped + (p.notices.length + 1 - 16)) = p.dropped := by omega
    rw [h1, h2]
  · have h1 : (p.notices ++ [n]).take 16 = p.notices := by
      rw [List.take_append_of_le_length (by omega), List.take_of_length_le h]
    have h2 : min 255 (p.dropped + (p.notices.length + 1 - 16)) = min (p.dropped + 1) 255 := by omega
    rw [h1, h2]

theorem addNotice_bounds (p : TerminalPort) (n : Notice) (h : p.notices.length ≤ 16) (hd : p.dropped ≤ 255) :
    (p.addNotice n).notices.length ≤ 16 ∧ (p.addNotice n).dropped ≤ 255 := by
  rw [addNotice_eq p n h hd]
  simp only [List.length_take]
  omega

theorem addNotice_frame (p : TerminalPort) (n : Notice) :
    p.addNotice n = { p with notices := (p.addNotice n).notices, dropped := (p.addNotice n).dropped } := by
  unfold TerminalPort.addNotice
  split <;> rfl

/-- Some notices placed one after another: what 16 leave room for joins, the rest is counted, up to 255. -/
def addNotices (p : TerminalPort) : List Notice → TerminalPort
  | [] => p
  | n :: rest => addNotices (p.addNotice n) rest

theorem addNotices_eq (l : List Notice) (p : TerminalPort) (h : p.notices.length ≤ 16) (hd : p.dropped ≤ 255) :
    addNotices p l = { p with notices := (p.notices ++ l).take 16,
                              dropped := min 255 (p.dropped + (p.notices.length + l.length - 16)) } := by
  induction l generalizing p with
  | nil =>
    have h1 : (p.notices ++ []).take 16 = p.notices := by rw [List.append_nil, List.take_of_length_le h]
    have h2 : min 255 (p.dropped + (p.notices.length + ([] : List Notice).length - 16)) = p.dropped := by
      simp; omega
    rw [addNotices, h1, h2]
  | cons n rest ih =>
    obtain ⟨hb, hdb⟩ := addNotice_bounds p n h hd
    rw [addNotices, ih _ hb hdb, addNotice_eq p n h hd]
    have h1 : ((p.notices ++ [n]).take 16 ++ rest).take 16 = (p.notices ++ n :: rest).take 16 := by
      rcases Nat.lt_or_ge p.notices.length 16 with hlt | hge
      · rw [List.take_of_length_le (l := p.notices ++ [n]) (by simp; omega)]; simp
      · have hl : p.notices.length = 16 := by omega
        rw [List.take_append_of_le_length (by simp [hl]), List.take_append_of_le_length (by omega),
          List.take_append_of_le_length (by omega), List.take_take]
        simp
    have h2 : min 255 (min 255 (p.dropped + (p.notices.length + 1 - 16))
          + (((p.notices ++ [n]).take 16).length + rest.length - 16))
        = min 255 (p.dropped + (p.notices.length + (n :: rest).length - 16)) := by
      simp only [List.length_take, List.length_append, List.length_cons, List.length_nil]
      omega
    simp only [h1, h2]

/-- Notices placed at one clock value, one after another. -/
theorem discardAll_eq (why : DiscardReason) (l : List Presentation) (s : State) :
    discardAll why l s
      = (s.setPort (addNotices s.port (l.map fun p =>
          { time := s.position.clock, body := .discarded why p.source (some p.tag) (some p.key) p.intakeTime }))).setReader
        { s.reader with
          taps := s.reader.taps ++ (l.filter fun p => p.source = .reader).map fun p => .notReadTag p.tag } := by
  induction l generalizing s with
  | nil => simp [discardAll, addNotices, State.setReader, State.setPort]
  | cons p rest ih =>
    rw [discardAll, ih]
    cases hp : p.source <;>
      simp [discardOne, hp, notice_eq, addTap, addNotices, State.setReader, State.setPort]

theorem clearedNotices_eq (l : List PendingConsume) (s : State) :
    clearedNotices l s
      = s.setPort (addNotices s.port (l.map fun p =>
          { time := s.position.clock, body := .consumeResolved p.tag p.key .cleared none none })) := by
  induction l generalizing s with
  | nil => simp [clearedNotices, addNotices, State.setPort]
  | cons p rest ih => rw [clearedNotices, ih]; simp [notice_eq, addNotices, State.setPort]

/-! ## The transmitters -/

/-- The reader's transmitter changes the reader's sending state and the notices only. -/
theorem readerTransmit_frame (s : State) :
    ∃ (r : ReaderPort) (n : List Notice) (d : Nat), readerTransmit s
        = (s.setReader r).setPort { s.port with notices := n, dropped := d }
      ∧ r.rx = s.reader.rx
      ∧ (s.port.notices.length ≤ 16 → s.port.dropped ≤ 255 → n.length ≤ 16 ∧ d ≤ 255) := by
  unfold readerTransmit
  split
  · exact ⟨s.reader, s.port.notices, s.port.dropped, rfl, rfl, fun h1 h2 => ⟨h1, h2⟩⟩
  · split
    · refine ⟨{ s.reader with asSent := s.intake.causes.wanted
                              sending := some (if s.intake.causes.wanted then .hold else .resume) },
        (s.port.addNotice ⟨s.position.clock, .holdState s.intake.causes.wanted s.intake.causes⟩).notices,
        (s.port.addNotice ⟨s.position.clock, .holdState s.intake.causes.wanted s.intake.causes⟩).dropped, ?_, rfl,
        fun h1 h2 => addNotice_bounds _ _ h1 h2⟩
      exact congrArg (fun p => (s.setReader _).setPort p) (addNotice_frame s.port _)
    · split
      · exact ⟨s.reader, s.port.notices, s.port.dropped, rfl, rfl, fun h1 h2 => ⟨h1, h2⟩⟩
      · rename_i t rest _
        exact ⟨{ s.reader with taps := rest, sending := some (.tap t) }, s.port.notices, s.port.dropped, rfl, rfl,
          fun h1 h2 => ⟨h1, h2⟩⟩

/-- The next frame of a burst changes the stream, the burst and the frame being sent only. -/
theorem sendEntry_frame (slots : List (Nat × JSlot)) (k : Nat) (p : TerminalPort) :
    ∃ (st : List Nat) (b : Option Nat) (f : Option TermFrame),
      sendEntry slots k p = { p with stream := st, burst := b, sending := f } := by
  unfold sendEntry
  split
  · exact ⟨p.stream, none, p.sending, rfl⟩
  · split
    · exact ⟨_, _, _, rfl⟩
    · exact ⟨_, _, p.sending, rfl⟩

/-- The arbiter's choice changes the notices, the stream, the burst and the frame being sent only. -/
theorem arbiterChoice_frame (slots : List (Nat × JSlot)) (p : TerminalPort) :
    ∃ (n : List Notice) (d : Nat) (st : List Nat) (b : Option Nat) (f : Option TermFrame),
      arbiterChoice slots p = { p with notices := n, dropped := d, stream := st, burst := b, sending := f }
      ∧ (p.notices.length ≤ 16 → p.dropped ≤ 255 → n.length ≤ 16 ∧ d ≤ 255) := by
  unfold arbiterChoice
  split
  · exact ⟨p.notices, p.dropped, p.stream, none, _, rfl, fun h1 h2 => ⟨h1, h2⟩⟩
  · exact ⟨p.notices, p.dropped, p.stream, none, _, rfl, fun h1 h2 => ⟨h1, h2⟩⟩
  · rename_i n rest _ hn _
    refine ⟨rest, 0, p.stream, none, _, rfl, fun h1 _ => ⟨?_, by omega⟩⟩
    rw [hn, List.length_cons] at h1
    omega
  · obtain ⟨st, b, f, h⟩ := sendEntry_frame slots 0 p
    exact ⟨p.notices, p.dropped, st, b, f, h, fun h1 h2 => ⟨h1, h2⟩⟩

/-- The terminal's transmitter changes the notices, the stream, the burst and the frame being sent only. -/
theorem terminalTransmit_frame (s : State) :
    ∃ (n : List Notice) (d : Nat) (st : List Nat) (b : Option Nat) (f : Option TermFrame), terminalTransmit s
        = s.setPort { s.port with notices := n, dropped := d, stream := st, burst := b, sending := f }
      ∧ (s.port.notices.length ≤ 16 → s.port.dropped ≤ 255 → n.length ≤ 16 ∧ d ≤ 255) := by
  obtain ⟨n, d, st, b, f, h, hb⟩ := arbiterChoice_frame s.journal.slots s.port
  unfold terminalTransmit
  split
  · exact ⟨_, _, _, _, _, rfl, fun h1 h2 => ⟨h1, h2⟩⟩
  · split
    · exact ⟨_, _, _, _, _, rfl, fun h1 h2 => ⟨h1, h2⟩⟩
    · rename_i k _ _
      split
      · obtain ⟨st, b, f, h⟩ := sendEntry_frame s.journal.slots k s.port
        exact ⟨s.port.notices, s.port.dropped, st, b, f, by rw [h], fun h1 h2 => ⟨h1, h2⟩⟩
      · exact ⟨n, d, st, b, f, by rw [h], hb⟩
    · exact ⟨n, d, st, b, f, by rw [h], hb⟩

/-- What follows every command changes the reader's sending state and the port's notices, stream, burst and frame being
sent only. -/
theorem settle_frame (s : State) :
    ∃ (r : ReaderPort) (n : List Notice) (d : Nat) (st : List Nat) (b : Option Nat) (f : Option TermFrame),
      settle s = (s.setReader r).setPort
        { s.port with notices := n, dropped := d, stream := st, burst := b, sending := f }
      ∧ r.rx = s.reader.rx
      ∧ (s.port.notices.length ≤ 16 → s.port.dropped ≤ 255 → n.length ≤ 16 ∧ d ≤ 255) := by
  obtain ⟨r, n, d, h, hr, hb⟩ := readerTransmit_frame s
  obtain ⟨n', d', st, b, f, h', hb'⟩ := terminalTransmit_frame (readerTransmit s)
  refine ⟨r, n', d', st, b, f, ?_, hr, fun h1 h2 => ?_⟩
  · rw [settle, h', h]; rfl
  · rw [h] at hb'
    obtain ⟨h3, h4⟩ := hb h1 h2
    exact hb' h3 h4

end Sys2Proof.Machine
end

