-- ==== Sys2Proof/Laws/Sparse.lean ====
section
/-! SUPPORT. The canonical lists: what a read finds after a write, and that every operation keeps the form. -/

namespace Sys2Proof.Machine

/-- A lower bound on every key of a list. -/
def keysAbove {α : Type} (k : Nat) (l : List (Nat × α)) : Prop := ∀ e ∈ l, k < e.1

theorem risingKeys_cons {α : Type} (a : Nat × α) (l : List (Nat × α)) :
    risingKeys (a :: l) = true ↔ keysAbove a.1 l ∧ risingKeys l = true := by
  induction l generalizing a with
  | nil => simp [risingKeys, keysAbove]
  | cons b rest ih =>
    simp only [risingKeys, Bool.and_eq_true, decide_eq_true_eq, keysAbove, List.forall_mem_cons]
    constructor
    · rintro ⟨hab, hr⟩
      refine ⟨⟨hab, fun e he => ?_⟩, hr⟩
      exact lt_trans hab ((ih b).1 hr |>.1 e he)
    · rintro ⟨⟨hab, -⟩, hr⟩
      exact ⟨hab, hr⟩

/-- The keys of a list that is filtered stay rising. -/
theorem risingKeys_filter {α : Type} (f : Nat × α → Bool) (l : List (Nat × α)) (h : risingKeys l = true) :
    risingKeys (l.filter f) = true := by
  induction l with
  | nil => rfl
  | cons a rest ih =>
    obtain ⟨ha, hr⟩ := (risingKeys_cons a rest).1 h
    by_cases hf : f a = true
    · rw [List.filter_cons_of_pos hf, risingKeys_cons]
      exact ⟨fun e he => ha e (List.mem_of_mem_filter he), ih hr⟩
    · rw [List.filter_cons_of_neg hf]
      exact ih hr

/-- Entries dropped or replaced under their own keys keep the order. -/
theorem risingKeys_filterMap {α : Type} (f : Nat × α → Option (Nat × α)) (hf : ∀ e x, f e = some x → x.1 = e.1)
    (l : List (Nat × α)) (h : risingKeys l = true) : risingKeys (l.filterMap f) = true := by
  induction l with
  | nil => rfl
  | cons a rest ih =>
    obtain ⟨ha, hr⟩ := (risingKeys_cons a rest).1 h
    cases hfa : f a with
    | none => rw [List.filterMap_cons_none hfa]; exact ih hr
    | some y =>
      rw [List.filterMap_cons_some hfa, risingKeys_cons]
      refine ⟨fun e he => ?_, ih hr⟩
      obtain ⟨x, hx, hxe⟩ := List.mem_filterMap.1 he
      rw [hf x e hxe, hf a y hfa]
      exact ha x hx

/-- The keys after a put are the old ones and the new one. -/
theorem mem_putAt {α : Type} (l : List (Nat × α)) (a : Nat) (v : α) (e : Nat × α) (h : e ∈ putAt l a v) :
    e ∈ l ∨ e = (a, v) := by
  induction l with
  | nil => simpa [putAt] using h
  | cons b rest ih =>
    obtain ⟨k, w⟩ := b
    simp only [putAt] at h
    split at h
    · rcases List.mem_cons.1 h with rfl | h
      · exact .inr rfl
      · exact .inl h
    · split at h
      · rcases List.mem_cons.1 h with rfl | h
        · exact .inr rfl
        · exact .inl (List.mem_cons_of_mem _ h)
      · rcases List.mem_cons.1 h with rfl | h
        · exact .inl List.mem_cons_self
        · rcases ih h with h | rfl
          · exact .inl (List.mem_cons_of_mem _ h)
          · exact .inr rfl

/-- A put keeps the order of keys. -/
theorem risingKeys_putAt {α : Type} (l : List (Nat × α)) (a : Nat) (v : α) (h : risingKeys l = true) :
    risingKeys (putAt l a v) = true := by
  induction l with
  | nil => rfl
  | cons b rest ih =>
    obtain ⟨k, w⟩ := b
    obtain ⟨hb, hr⟩ := (risingKeys_cons (k, w) rest).1 h
    simp only [putAt]
    split
    · rename_i hlt
      rw [risingKeys_cons]
      refine ⟨fun e he => ?_, h⟩
      rcases List.mem_cons.1 he with rfl | he
      · exact hlt
      · exact lt_trans hlt (hb e he)
    · split
      · rename_i heq
        rw [risingKeys_cons]
        exact ⟨fun e he => heq ▸ hb e he, hr⟩
      · rename_i h1 h2
        rw [risingKeys_cons]
        refine ⟨fun e he => ?_, ih hr⟩
        rcases mem_putAt rest a v e he with he | rfl
        · exact hb e he
        · show k < a
          omega

/-- A range dropped keeps the order of keys. -/
theorem risingKeys_dropRange {α : Type} (l : List (Nat × α)) (lo hi : Nat) (h : risingKeys l = true) :
    risingKeys (dropRange l lo hi) = true := risingKeys_filter _ l h

/-- Nothing is held at a key below every key. -/
theorem lookupAt_of_keysAbove {α : Type} (l : List (Nat × α)) (k a : Nat) (h : keysAbove k l) (ha : a ≤ k) :
    lookupAt l a = none := by
  induction l with
  | nil => rfl
  | cons b rest ih =>
    obtain ⟨j, w⟩ := b
    have hj : k < j := h (j, w) List.mem_cons_self
    have : j ≠ a := by omega
    simp only [lookupAt, this, if_false]
    exact ih fun e he => h e (List.mem_cons_of_mem _ he)

/-- The key put reads back, and every other key reads as before. -/
theorem lookupAt_putAt {α : Type} (l : List (Nat × α)) (a b : Nat) (v : α) (h : risingKeys l = true) :
    lookupAt (putAt l a v) b = if a = b then some v else lookupAt l b := by
  induction l with
  | nil => simp [putAt, lookupAt]
  | cons c rest ih =>
    obtain ⟨k, w⟩ := c
    obtain ⟨hc, hr⟩ := (risingKeys_cons (k, w) rest).1 h
    simp only [putAt]
    split
    · simp [lookupAt]
    · split
      · rename_i heq
        subst heq
        by_cases hab : a = b <;> simp [lookupAt, hab]
      · rename_i h1 h2
        simp only [lookupAt, ih hr]
        by_cases hkb : k = b
        · subst hkb
          simp [h2]
        · simp [hkb]

/-- Outside a dropped range every key reads as before. -/
theorem lookupAt_dropRange {α : Type} (l : List (Nat × α)) (lo hi b : Nat) :
    lookupAt (dropRange l lo hi) b = if lo ≤ b ∧ b < hi then none else lookupAt l b := by
  induction l with
  | nil => simp [dropRange, lookupAt]
  | cons c rest ih =>
    obtain ⟨k, w⟩ := c
    simp only [dropRange] at ih
    by_cases hk : lo ≤ k ∧ k < hi
    · have : List.filter (fun e : Nat × α => !(decide (lo ≤ e.1) && decide (e.1 < hi))) ((k, w) :: rest)
          = List.filter (fun e => !(decide (lo ≤ e.1) && decide (e.1 < hi))) rest := by
        rw [List.filter_cons_of_neg]; simp [hk]
      rw [dropRange, this, ih]
      by_cases hkb : k = b
      · subst hkb; simp [hk]
      · simp [lookupAt, hkb]
    · have : List.filter (fun e : Nat × α => !(decide (lo ≤ e.1) && decide (e.1 < hi))) ((k, w) :: rest)
          = (k, w) :: List.filter (fun e => !(decide (lo ≤ e.1) && decide (e.1 < hi))) rest := by
        rw [List.filter_cons_of_pos]
        simp only [Bool.not_eq_true', Bool.and_eq_false_iff, decide_eq_false_iff_not]
        tauto
      rw [dropRange, this]
      simp only [lookupAt, ih]
      by_cases hkb : k = b
      · subst hkb; simp [hk]
      · simp [hkb]

/-- A byte written reads back, and every other byte reads as before. -/
theorem readByte_writeByte (m : List Host.Cell) (a b : Nat) (v : Byte) (h : risingKeys m = true) :
    readByte (writeByte m a v) b = if a = b then v else readByte m b := by
  unfold readByte writeByte
  split
  · rename_i hv
    rw [lookupAt_dropRange]
    by_cases hab : a = b
    · subst hab; simp [hv]
    · have : ¬(a ≤ b ∧ b < a + 1) := by omega
      rw [if_neg this, if_neg hab]
  · rw [lookupAt_putAt m a b v h]
    by_cases hab : a = b <;> simp [hab]

/-- The canonical form as two facts. -/
theorem Memory.wf_iff (m : List Host.Cell) :
    Memory.wf m = true ↔ risingKeys m = true ∧ ∀ e ∈ m, e.2 ≠ erasedByte := by
  simp [Memory.wf, List.all_eq_true]

/-- A range dropped keeps the canonical form. -/
theorem Memory.wf_dropRange (m : List Host.Cell) (lo hi : Nat) (h : Memory.wf m = true) :
    Memory.wf (dropRange m lo hi) = true := by
  rw [Memory.wf_iff] at *
  exact ⟨risingKeys_dropRange m lo hi h.1, fun e he => h.2 e (List.mem_of_mem_filter he)⟩

/-- A byte written keeps the canonical form. -/
theorem Memory.wf_writeByte (m : List Host.Cell) (a : Nat) (b : Byte) (h : Memory.wf m = true) :
    Memory.wf (writeByte m a b) = true := by
  unfold writeByte
  split
  · exact Memory.wf_dropRange m a (a + 1) h
  · rename_i hb
    rw [Memory.wf_iff] at *
    refine ⟨risingKeys_putAt m a b h.1, fun e he => ?_⟩
    rcases mem_putAt m a b e he with he | rfl
    · exact h.2 e he
    · exact hb

/-- Bytes written keep the canonical form. -/
theorem Memory.wf_writeBytes (m : List Host.Cell) (a : Nat) (bs : List Byte) (h : Memory.wf m = true) :
    Memory.wf (writeBytes m a bs) = true := by
  induction bs generalizing m a with
  | nil => exact h
  | cons b rest ih => exact ih _ _ (Memory.wf_writeByte m a b h)

/-- Bytes written read back in their places, and every byte outside them reads as before. -/
theorem readByte_writeBytes (m : List Host.Cell) (a b : Nat) (bs : List Byte) (h : Memory.wf m = true) :
    readByte (writeBytes m a bs) b
      = if a ≤ b ∧ b < a + bs.length then bs.getD (b - a) erasedByte else readByte m b := by
  induction bs generalizing m a with
  | nil =>
    simp [writeBytes]
  | cons c rest ih =>
    simp only [writeBytes, ih _ _ (Memory.wf_writeByte m a c h),
      readByte_writeByte m a b c ((Memory.wf_iff m).1 h).1, List.length_cons]
    by_cases hab : a = b
    · subst hab
      simp
    · by_cases hin : a + 1 ≤ b ∧ b < a + 1 + rest.length
      · have h1 : a ≤ b ∧ b < a + (rest.length + 1) := by omega
        obtain ⟨n, hn⟩ : ∃ n, b - a = n + 1 := ⟨b - a - 1, by omega⟩
        have h2 : b - (a + 1) = n := by omega
        simp only [hin, h1, and_self, if_true, h2, hn, List.getD_cons_succ]
      · have h1 : ¬(a ≤ b ∧ b < a + (rest.length + 1)) := by omega
        rw [if_neg hin, if_neg h1, if_neg hab]

end Sys2Proof.Machine
end

