-- ==== Sys2Proof/Laws/Bounds.lean ====
section
/-! SUPPORT. The bounds of `State.bounded`, block by block, and that each shared operation keeps them. -/

namespace Sys2Proof.Machine

/-- A cut operation of the table flash keeps the canonical form (R75). -/
theorem Memory.wf_cutBytes (occurrence a n : Nat) {m : List Host.Cell} (h : Memory.wf m = true) :
    Memory.wf (cutBytes occurrence a n m) = true := by
  induction n with
  | zero => exact h
  | succ n ih => exact Memory.wf_writeByte _ _ _ ih

/-- Records whose program was cut keep the canonical form (R75). -/
theorem Memory.wf_cutRecordBytes (occurrence : Nat) (e : DirEntry) (records : List (Nat × List Byte)) :
    ∀ {m : List Host.Cell}, Memory.wf m = true → Memory.wf (cutRecordBytes occurrence e records m) = true := by
  induction records with
  | nil => exact fun h => h
  | cons r rest ih => exact fun h => ih (Memory.wf_cutBytes _ _ _ h)

/-- The Table Store within its bounds. -/
def TableStore.ok (t : TableStore) : Prop :=
  Memory.wf t.bank0.mem = true ∧ Memory.wf t.bank1.mem = true ∧ t.oneActive = true

/-- The Journal within its bounds. -/
def Journal.ok (j : Journal) : Prop := risingKeys j.slots = true ∧ j.queue.length ≤ 8 ∧ j.waiting.Nodup

/-- The Inspection Memory within its bounds. -/
def InspectionMemory.ok (m : InspectionMemory) : Prop :=
  slotsOk m.slots = true ∧ m.pendingList.length ≤ 4 ∧ m.resolutions.length ≤ 4

/-- The Terminal Link Port within its bounds. -/
def TerminalPort.ok (p : TerminalPort) : Prop := p.responses.length ≤ 8 ∧ p.notices.length ≤ 16 ∧ p.dropped ≤ 255

/-- The Intake Queue within its bounds. -/
def IntakeQueue.ok (q : IntakeQueue) : Prop := q.queue.length ≤ 14 ∧ q.tagCounter ≤ 255

/-- The Position Unit within its bounds. -/
def PositionUnit.ok (p : PositionUnit) : Prop :=
  p.history.length ≤ 24 ∧ p.clock.minute ≤ 1919 ∧ p.debt ≤ 2 ∧ p.coach ≤ 32

/-- A waiting verdict with consume YES has its place (R89). -/
def placeOk (e : Evaluator) (m : InspectionMemory) : Prop :=
  ∀ c v w, e = .awaiting c v w → v.consume = true → m.pendingList.length < 4

/-- Every block within its bounds. -/
structure State.Ok (s : State) : Prop where
  tables : s.tables.ok
  journal : s.journal.ok
  memory : s.memory.ok
  port : s.port.ok
  intake : s.intake.ok
  position : s.position.ok
  patterns : s.annunciator.queue.length ≤ 4
  settings : s.settings.inRange = true
  place : placeOk s.evaluator s.memory

theorem placeOk_iff (s : State) : s.consumeHasPlace = true ↔ placeOk s.evaluator s.memory := by
  unfold State.consumeHasPlace placeOk
  cases s.evaluator with
  | idle => simp
  | evaluating c => simp
  | awaiting c v w =>
    simp only [Evaluator.awaiting.injEq, Bool.or_eq_true, Bool.not_eq_true', decide_eq_true_eq]
    constructor
    · rintro h c' v' w' ⟨-, rfl, -⟩ hv
      rcases h with h | h
      · rw [h] at hv; cases hv
      · exact h
    · intro h
      cases hv : v.consume
      · exact .inl rfl
      · exact .inr (h c v w ⟨rfl, rfl, rfl⟩ hv)

/-- The bounds, block by block. -/
theorem bounded_iff (s : State) : s.bounded = true ↔ s.Ok := by
  simp only [State.bounded, State.canonical, State.intakeBounded, State.portBounded, State.journalBounded,
    State.resolutionsBounded, State.pendingBounded, State.positionBounded, State.patternsBounded, Bool.and_eq_true,
    decide_eq_true_eq, placeOk_iff]
  constructor
  · rintro ⟨⟨⟨⟨⟨⟨⟨⟨⟨⟨⟨⟨h1, h2⟩, h3⟩, h4⟩, h5, h6⟩, ⟨h7, h8⟩, h9⟩, h10, h11⟩, h12⟩, h13, h14⟩,
      ⟨⟨h15, h16⟩, h17⟩, h18⟩, h19⟩, h20⟩, h21⟩
    exact ⟨⟨h1, h2, h21⟩, ⟨h3, h10, h11⟩, ⟨h4, h13, h12⟩, ⟨h7, h8, h9⟩, ⟨h5, h6⟩, ⟨h15, h16, h17, h18⟩, h19, h20, h14⟩
  · rintro ⟨⟨h1, h2, h21⟩, ⟨h3, h10, h11⟩, ⟨h4, h13, h12⟩, ⟨h7, h8, h9⟩, ⟨h5, h6⟩, ⟨h15, h16, h17, h18⟩, h19, h20, h14⟩
    exact ⟨⟨⟨⟨⟨⟨⟨⟨⟨⟨⟨⟨h1, h2⟩, h3⟩, h4⟩, h5, h6⟩, ⟨h7, h8⟩, h9⟩, h10, h11⟩, h12⟩, h13, h14⟩,
      ⟨⟨h15, h16⟩, h17⟩, h18⟩, h19⟩, h20⟩, h21⟩

namespace State.Ok

variable {s : State}

theorem setPort (h : s.Ok) {x : TerminalPort} (hx : x.ok) : (s.setPort x).Ok := { h with port := hx }
theorem setReader (h : s.Ok) (x : ReaderPort) : (s.setReader x).Ok := { h with }
theorem setJournal (h : s.Ok) {x : Journal} (hx : x.ok) : (s.setJournal x).Ok := { h with journal := hx }
theorem setTables (h : s.Ok) {x : TableStore} (hx : x.ok) : (s.setTables x).Ok := { h with tables := hx }
theorem setIntake (h : s.Ok) {x : IntakeQueue} (hx : x.ok) : (s.setIntake x).Ok := { h with intake := hx }
theorem setPosition (h : s.Ok) {x : PositionUnit} (hx : x.ok) : (s.setPosition x).Ok := { h with position := hx }
theorem setSettings (h : s.Ok) {x : Settings} (hx : x.inRange = true) : (s.setSettings x).Ok := { h with settings := hx }
theorem setAnnunciator (h : s.Ok) {x : Annunciator} (hx : x.queue.length ≤ 4) : (s.setAnnunciator x).Ok :=
  { h with patterns := hx }
theorem setEvaluator (h : s.Ok) {x : Evaluator} (hx : placeOk x s.memory) : (s.setEvaluator x).Ok :=
  { h with place := hx }
theorem setMemory (h : s.Ok) {x : InspectionMemory} (hx : x.ok) (hp : placeOk s.evaluator x) : (s.setMemory x).Ok :=
  { h with memory := hx, place := hp }
theorem setTimeBase (h : s.Ok) (x : Nat) : (s.setTimeBase x).Ok := { h with }
theorem setNextTick (h : s.Ok) (x : Nat) : (s.setNextTick x).Ok := { h with }
theorem setSupplyLow (h : s.Ok) (x : Bool) : (s.setSupplyLow x).Ok := { h with }
theorem setPending (h : s.Ok) (x : List Instr) : (s.setPending x).Ok := { h with }

theorem notice (h : s.Ok) (b : NoticeBody) : (Machine.notice b s).Ok := by
  refine h.setPort ⟨?_, addNotice_bounds _ _ h.port.2.1 h.port.2.2⟩
  rw [addNotice_frame]
  exact h.port.1

theorem readerTransmit (h : s.Ok) : (Machine.readerTransmit s).Ok := by
  obtain ⟨r, n, d, he, -, hb⟩ := readerTransmit_frame s
  rw [he]
  exact (h.setReader r).setPort ⟨h.port.1, hb h.port.2.1 h.port.2.2⟩

theorem terminalTransmit (h : s.Ok) : (Machine.terminalTransmit s).Ok := by
  obtain ⟨n, d, st, b, f, he, hb⟩ := terminalTransmit_frame s
  rw [he]
  exact h.setPort ⟨h.port.1, hb h.port.2.1 h.port.2.2⟩

theorem settle (h : s.Ok) : (Machine.settle s).Ok := h.readerTransmit.terminalTransmit

/-- Room in the response queue for one more, as at every dispatch (R153). -/
theorem respond (h : s.Ok) (hl : s.port.responses.length < 8) (cls : Nat) (r : Reply) : (Machine.respond cls r s).Ok := by
  refine h.setPort ⟨?_, h.port.2⟩
  simp only [List.length_append, List.length_cons, List.length_nil]
  omega

theorem holdResponse (h : s.Ok) (hl : s.port.responses.length < 8) (cls : Nat) : (Machine.holdResponse cls s).Ok := by
  refine h.setPort ⟨?_, h.port.2⟩
  simp only [List.length_append, List.length_cons, List.length_nil]
  omega

end State.Ok

theorem fillFirst_length (cls : Nat) (r : Reply) (l : List Response) : (fillFirst cls r l).length = l.length := by
  induction l with
  | nil => rfl
  | cons x rest ih =>
    simp only [fillFirst]
    split <;> simp [ih]

namespace State.Ok

variable {s : State}

theorem produce (h : s.Ok) (cls : Nat) (r : Reply) : (Machine.produce cls r s).Ok := by
  refine h.setPort ⟨?_, h.port.2⟩
  show (fillFirst cls r s.port.responses).length ≤ 8
  rw [fillFirst_length]
  exact h.port.1

theorem produceAll (h : s.Ok) (cls : Nat) (r : Reply) : (Machine.produceAll cls r s).Ok := by
  refine h.setPort ⟨?_, h.port.2⟩
  show (fillAll cls r s.port.responses).length ≤ 8
  rw [fillAll, List.length_map]
  exact h.port.1

theorem flowStep (h : s.Ok) : (Machine.flowStep s).Ok := h.setIntake h.intake

theorem setQueue (h : s.Ok) {q : List Presentation} (hq : q.length ≤ 14) : (Machine.setQueue q s).Ok :=
  State.Ok.flowStep (h.setIntake ⟨hq, h.intake.2⟩)

theorem enrol (h : s.Ok) (hq : s.intake.queue.length < 14) (src : Source) (p : PresPayload) :
    (Machine.enrol src p s).Ok := by
  refine State.Ok.setQueue ?_ ?_
  · refine h.setIntake ⟨h.intake.1, ?_⟩
    exact Nat.le_of_lt_succ (Nat.mod_lt _ (by omega))
  · simp only [List.length_append, List.length_cons, List.length_nil]
    omega

theorem addTap (h : s.Ok) (t : TapResult) : (Machine.addTap t s).Ok := h.setReader _

theorem discardOne (h : s.Ok) (why : DiscardReason) (p : Presentation) : (Machine.discardOne why p s).Ok := by
  unfold Machine.discardOne
  cases p.source
  · exact (h.notice _).addTap _
  · exact h.notice _

theorem discardAll (why : DiscardReason) (l : List Presentation) : ∀ {s : State}, s.Ok → (Machine.discardAll why l s).Ok := by
  induction l with
  | nil => exact fun h => h
  | cons p rest ih => exact fun h => ih (h.discardOne why p)

theorem emptyQueue (h : s.Ok) (why : DiscardReason) : (Machine.emptyQueue why s).Ok :=
  (discardAll why _ h).setQueue (by simp)

end State.Ok

/-! ## Banks -/

theorem TableStore.ok_bank (t : TableStore) (h : t.ok) (n : Nat) : Memory.wf (t.bank n).mem = true := by
  unfold TableStore.bank
  split
  · exact h.1
  · exact h.2.1

/-- A bank replaced by one whose bytes are canonical and whose role is not a new ACTIVE. -/
theorem TableStore.ok_setBank (t : TableStore) (h : t.ok) (n : Nat) (b : Bank) (hb : Memory.wf b.mem = true)
    (hr : b.role = .active → (t.bank n).role = .active) : (t.setBank n b).ok := by
  obtain ⟨h0, h1, ho⟩ := h
  unfold TableStore.setBank TableStore.ok TableStore.oneActive TableStore.bank at *
  split
  · rename_i hn
    refine ⟨hb, h1, ?_⟩
    simp only [hn, if_true] at hr
    by_cases hba : b.role = .active
    · simp only [hr hba] at ho
      simpa [hba] using ho
    · simp [hba]
  · rename_i hn
    refine ⟨h0, hb, ?_⟩
    simp only [hn, if_false] at hr
    by_cases hba : b.role = .active
    · simp only [hr hba] at ho
      simpa [hba] using ho
    · simp [hba]

theorem State.Ok.releasePin {s : State} (h : s.Ok) (n : Option Nat) : (Machine.releasePin n s).Ok := by
  refine h.setTables ?_
  cases n with
  | none => exact h.tables
  | some n =>
    refine s.tables.ok_setBank h.tables n _ (s.tables.ok_bank h.tables n) ?_
    simp only [Bank.unpin]
    split
    · intro hh; cases hh
    · exact id

/-! ## The Journal's operations -/

/-- A verdict that differs only in its journal sequence and flags keeps its consume. -/
theorem placeOk_same {e e' : Evaluator} {m m' : InspectionMemory} (h : placeOk e m)
    (he : ∀ c v w, e' = .awaiting c v w → ∃ c' v' w', e = .awaiting c' v' w' ∧ v'.consume = v.consume)
    (hm : m'.pendingList.length ≤ m.pendingList.length) : placeOk e' m' := by
  intro c v w hv hc
  obtain ⟨c', v', w', h1, h2⟩ := he c v w hv
  exact lt_of_le_of_lt hm (h c' v' w' h1 (h2.trans hc))

namespace State.Ok

variable {s : State}

theorem setResolutions (h : s.Ok) {l : List Resolution} (hl : l.length ≤ 4) :
    (s.setMemory { s.memory with resolutions := l }).Ok :=
  h.setMemory ⟨h.memory.1, h.memory.2.1, hl⟩ (placeOk_same h.place (fun c v w hv => ⟨c, v, w, hv, rfl⟩) le_rfl)

theorem resolvedNotice (h : s.Ok) (r : Resolution) (q : Option Nat) : (Machine.resolvedNotice r q s).Ok := h.notice _

theorem joinWaiting (h : s.Ok) (p : Producer) : (Machine.joinWaiting p s).Ok := by
  unfold Machine.joinWaiting
  split
  · exact h
  · rename_i hp
    refine h.setJournal ⟨h.journal.1, h.journal.2.1, ?_⟩
    rw [List.nodup_append]
    refine ⟨h.journal.2.2, List.nodup_singleton _, ?_⟩
    intro a ha b hb hab
    rw [List.mem_singleton] at hb
    rw [hab, hb] at ha
    exact hp (List.contains_iff_mem.2 ha)

theorem evaluatorQueued (h : s.Ok) (q : Nat) : (Machine.evaluatorQueued q s).Ok := by
  unfold Machine.evaluatorQueued
  split
  · rename_i c v heq
    refine h.setEvaluator (placeOk_same h.place (fun c' v' w' hv => ⟨c, v, .place, heq, ?_⟩) le_rfl)
    cases hv
    rfl
  · exact h

theorem evaluatorDropped (h : s.Ok) : (Machine.evaluatorDropped s).Ok := by
  unfold Machine.evaluatorDropped
  split
  · rename_i c v heq
    refine h.setEvaluator (placeOk_same h.place (fun c' v' w' hv => ⟨c, v, .place, heq, ?_⟩) le_rfl)
    cases hv
    rfl
  · exact h

theorem positionTold (h : s.Ok) : (Machine.positionTold s).Ok := by
  unfold Machine.positionTold
  split
  · exact h
  · refine State.Ok.produce ?_ _ _
    exact h.setPosition h.position

theorem tablesTold (h : s.Ok) : (Machine.tablesTold s).Ok := by
  unfold Machine.tablesTold
  split
  · refine State.Ok.produce ?_ _ _
    exact h.setTables h.tables
  · exact h.setTables h.tables
  · exact h

theorem memoryQueued (h : s.Ok) (q : Nat) : (Machine.memoryQueued q s).Ok := by
  unfold Machine.memoryQueued
  split
  · exact h
  · rename_i r rest heq
    have hl : rest.length ≤ 4 := by
      have := h.memory.2.2
      rw [heq, List.length_cons] at this
      omega
    have h1 := (h.setResolutions hl).resolvedNotice r (some q)
    split
    · exact h1
    · exact h1.joinWaiting _

theorem resolvedDropped (l : List Resolution) : ∀ {s : State}, s.Ok → (Machine.resolvedDropped l s).Ok := by
  induction l with
  | nil => exact fun h => h
  | cons r rest ih => exact fun h => ih (h.resolvedNotice r none)

theorem memoryDropped (h : s.Ok) : (Machine.memoryDropped s).Ok := resolvedDropped _ (h.setResolutions (by simp))

theorem controlTold (h : s.Ok) (c : ControlItem) (q : Option Nat) : (Machine.controlTold c q s).Ok := by
  have h1 : (s.setJournal { s.journal with control := none }).Ok := h.setJournal h.journal
  unfold Machine.controlTold
  cases c with
  | note bytes => exact h1.produce _ _
  | mark value clamped => exact h1.produce _ _
  | started cause generation => exact h1.notice _
  | closed =>
    cases q with
    | some q => exact h1.setJournal h.journal
    | none =>
      refine State.Ok.produce ?_ _ _
      exact h1.setJournal h.journal

theorem tellQueued (h : s.Ok) (p : Producer) (q : Nat) : (Machine.tellQueued p q s).Ok := by
  cases p with
  | evaluator => exact h.evaluatorQueued q
  | position => exact h.positionTold
  | tables => exact h.tablesTold
  | memory => exact h.memoryQueued q
  | control =>
    simp only [Machine.tellQueued]
    split
    · exact h
    · exact h.controlTold _ _

theorem tellDropped (h : s.Ok) (p : Producer) : (Machine.tellDropped p s).Ok := by
  cases p with
  | evaluator => exact h.evaluatorDropped
  | position => exact h.positionTold
  | tables => exact h.tablesTold
  | memory => exact h.memoryDropped
  | control =>
    simp only [Machine.tellDropped]
    split
    · exact h
    · exact h.controlTold _ _

theorem tellAllDropped (l : List Producer) : ∀ {s : State}, s.Ok → (Machine.tellAllDropped l s).Ok := by
  induction l with
  | nil => exact fun h => h
  | cons p rest ih => exact fun h => ih (h.tellDropped p)

theorem dropWaiting (h : s.Ok) : (Machine.dropWaiting s).Ok :=
  tellAllDropped _ (h.setJournal ⟨h.journal.1, h.journal.2.1, List.nodup_nil⟩)

theorem fullNotice (h : s.Ok) (c : FullCause) (n : Nat) : (Machine.fullNotice c n s).Ok := h.notice _

theorem exhaust (h : s.Ok) : (Machine.exhaust s).Ok := by
  refine State.Ok.fullNotice (State.Ok.dropWaiting ?_) _ _
  exact h.setJournal h.journal

theorem queueEntry (h : s.Ok) (hq : s.journal.queue.length < 8) (e : Entry) : (Machine.queueEntry e s).Ok := by
  refine h.setJournal ⟨h.journal.1, ?_, h.journal.2.2⟩
  simp only [List.length_append, List.length_cons, List.length_nil]
  omega

theorem enqueue (h : s.Ok) (hq : s.journal.queue.length < 8) (p : Producer) : (Machine.enqueue p s).Ok := by
  unfold Machine.enqueue
  split
  · exact h
  · rename_i d _
    have h1 := (h.queueEntry hq (entryNow s d)).tellQueued p s.journal.nextSeq
    split
    · exact h1.exhaust
    · exact h1

theorem offer (h : s.Ok) (p : Producer) : (Machine.offer p s).Ok := by
  unfold Machine.offer
  split
  · exact h.tellDropped p
  · split
    · exact h
    · split
      · rename_i hq
        exact h.enqueue hq.1 p
      · exact h.joinWaiting p

theorem tellQueueDropped (h : s.Ok) (e : Entry) : (Machine.tellQueueDropped e s).Ok := by
  unfold Machine.tellQueueDropped
  split
  · split
    · rename_i c v q heq
      split
      · refine h.setEvaluator (placeOk_same h.place (fun c' v' w' hv => ⟨c, v, .queued q, heq, ?_⟩) le_rfl)
        cases hv
        rfl
      · exact h
    · exact h
  · exact h.produce _ _
  · exact h

theorem dropEntries (l : List Entry) : ∀ {s : State}, s.Ok → (Machine.dropEntries l s).Ok := by
  induction l with
  | nil => exact fun h => h
  | cons e rest ih => exact fun h => ih (h.tellQueueDropped e)

theorem becomeFull (h : s.Ok) : (Machine.becomeFull s).Ok := by
  refine State.Ok.fullNotice (State.Ok.dropWaiting (dropEntries _ ?_)) _ _
  exact h.setJournal ⟨h.journal.1, Nat.zero_le _, h.journal.2.2⟩

theorem resolve (h : s.Ok) (tag : Nat) (key : Key) (o : ConsumeOutcome) : (Machine.resolve tag key o s).Ok := by
  unfold Machine.resolve
  dsimp only
  split
  · exact h.resolvedNotice _ _
  · rename_i hl
    have hl' : s.memory.resolutions.length < 4 := by simpa [resolutionLimit] using hl
    have h1 : (s.setMemory
        { s.memory with
          resolutions := s.memory.resolutions
            ++ [{ tag := tag, key := key, outcome := o, run := s.position.run }] }).Ok :=
      h.setResolutions (by simp only [List.length_append, List.length_cons, List.length_nil]; omega)
    split
    · exact h1.offer _
    · exact h1

theorem clearedNotices (l : List PendingConsume) : ∀ {s : State}, s.Ok → (Machine.clearedNotices l s).Ok := by
  induction l with
  | nil => exact fun h => h
  | cons p rest ih => exact fun h => ih (h.notice _)

theorem clearMemory (h : s.Ok) : (Machine.clearMemory s).Ok :=
  clearedNotices _ (h.setMemory ⟨rfl, by simp, h.memory.2.2⟩ (fun c v w hv hc => by simp))

end State.Ok

end Sys2Proof.Machine
end

