-- ==== Sys2Proof/WellFormed.lean ====
section
/-! DEFINITION. Which commands can be sent at all: the bytes of one reception are no more than one frame. -/

namespace Sys2Proof

/-- The longest frame: sync, class, two length bytes, 1024 bytes of payload, two bytes of check (spec 11.1). -/
def maxFrameBytes : Nat := 1030

/-- A command is well formed when the bytes it reports are at most one frame. Commands without bytes are
always well formed. -/
def Instr.wf : Instr → Bool
  | .presentation bytes => bytes.length ≤ maxFrameBytes
  | .consumeReport bytes => bytes.length ≤ maxFrameBytes
  | .frameCheckFailed _ bytes => bytes.length ≤ maxFrameBytes
  | .controlFrameReceived bytes => bytes.length ≤ maxFrameBytes
  | _ => true

end Sys2Proof
end

