-- ==== Sys2Proof/Tests/Slice0.lean ====
section
/-! SUPPORT. The model's own tests. Expected values come from the manual's worked examples and tables, named in each
test's comment. After them, for every statement with hypotheses, a concrete state and operands that meet the hypotheses
of each of its clauses; a variable that a hypothesis fixes by an equation has that value and is left out. -/

namespace Sys2Proof.Tests

open Sys2Proof.Machine

set_option Elab.async false

/-! ## The forms of a command -/

theorem test_wf_presentation : (Instr.presentation (List.replicate 1031 0)).wf = false := by decide +kernel
theorem test_wf_consumeReport : (Instr.consumeReport (List.replicate 1031 0)).wf = false := by decide +kernel
theorem test_wf_frameCheckFailed : (Instr.frameCheckFailed .terminal (List.replicate 1031 0)).wf = false := by decide +kernel
theorem test_wf_controlFrameReceived : (Instr.controlFrameReceived (List.replicate 1031 0)).wf = false := by decide +kernel
theorem test_wf_longest_frame : (Instr.presentation (List.replicate 1030 0)).wf = true := by decide +kernel
/-- No row of the table has bits, so no word spells a command and the queue stays as it is. -/
theorem test_no_word_is_a_command : decodeTableWord 16 48 = none ∧ State.reset.withFetchWord 16 48 = State.reset := by
  decide +kernel

/-! ## States to test on -/

/-- The part in service: recovery over, the last sequence number but one next, the reader's transmitter free. -/
def live : State :=
  { State.reset with
    reader := { State.reset.reader with sending := none }
    journal := { State.reset.journal with mode := .opened, nextSeq := 4294967294 } }

/-- A frame in the input place. -/
def framed (cls : Nat) (payload : List Byte) (s : State) : State :=
  { s with port := { s.port with input := some { cls := cls, payload := payload } } }

/-- The Journal FULL. -/
def full (s : State) : State := { s with journal := { s.journal with full := some .noSector } }

/-- A NOTE entry, as the write queue holds it. -/
def noteEntry : Entry := { seq := 9, time := { day := 412, minute := 655 }, run := 3, body := .note (List.replicate 16 0) }

/-- The write queue full. -/
def crowded (s : State) : State := { s with journal := { s.journal with queue := List.replicate 8 noteEntry } }

/-- The state a command leaves. -/
def after (c : Instr) (s : State) : State :=
  match exec c s with
  | .next t => t
  | .fault _ => s
  | .refused _ => s

/-- The statuses of the responses that wait. -/
def statuses (s : State) : List (Nat × Option Status) := s.port.responses.map fun r => (r.cls, r.reply.map Reply.status)

/-- A stop record (spec 11.7): the flags are 128 for BORDER and 64 for SPLIT in the zone byte, 32768 for REQUEST in the
code. -/
def stopBytes (route auth zone code : Nat) : List Byte := be1 (route * 16 + auth) ++ be1 zone ++ be2 code

/-- Route 3 of 03 section 3.3, and route 5 with stops 210 and 230 (03, coverage on route 3). -/
def routeBytes : List Byte :=
  stopBytes 3 2 4 210 ++ stopBytes 3 2 5 (32768 + 211) ++ stopBytes 3 2 (192 + 7) 215 ++ stopBytes 3 5 1 501
    ++ stopBytes 3 5 2 502 ++ stopBytes 5 2 4 210 ++ stopBytes 5 2 9 230

/-- The rates records of authorities 2 and 5 (06, the supplement of ticket A). -/
def rates2 : List Byte :=
  be2 185 ++ be2 290 ++ be1 100 ++ be1 50 ++ be1 50 ++ be1 70 ++ be2 50 ++ be1 10 ++ be2 2000 ++ be2 4000 ++ be1 0
def rates5 : List Byte :=
  be2 240 ++ be2 360 ++ be1 100 ++ be1 60 ++ be1 40 ++ be1 60 ++ be2 65506 ++ be1 5 ++ be2 1500 ++ be2 2500 ++ be1 0

/-- Product 120 of authority 2: SINGLE, ORIGIN_DEST, at most 4 passengers, grace 10, honored by none. -/
def product120 : List Byte := be2 120 ++ [1, 1, 0, 0, 4, 10] ++ List.replicate 16 0

/-- The bytes of a bank with those tables; of authority 2's matrix, the rows and columns 4 to 9 of 03 section 3.4. -/
def tariffMem : List Host.Cell :=
  ([(0, routeBytes), (256, rates2), (512 + 30, [0, 1, 0, 2, 0, 4]), (512 + 39, [1, 0, 0, 2, 0, 3]),
    (512 + 57, [2, 2, 0, 0, 0, 3]), (512 + 75, [4, 3, 0, 3, 0, 0]), (768, product120), (1024, rates5),
    (1280, [0, 1, 1, 0])] : List (Nat × List Byte)).foldl (fun m x => writeBytes m x.1 x.2) []

/-- The directory of those tables. -/
def tariffDirectory : List DirEntry :=
  [{ kind := .routes, auth := 0, count := 7, first := 0, length := 1 },
   { kind := .rates, auth := 2, count := 1, first := 1, length := 1 },
   { kind := .zones, auth := 2, count := 9, first := 2, length := 1 },
   { kind := .products, auth := 2, count := 1, first := 3, length := 1 },
   { kind := .rates, auth := 5, count := 1, first := 4, length := 1 },
   { kind := .zones, auth := 5, count := 2, first := 5, length := 1 }]

/-- Their manifest, of generation 19. -/
def tariffManifest : Manifest :=
  { generation := 19, epochDay := 400, auths := [{ code := 2, rank := 1 }, { code := 5, rank := 2 }]
    segs := tariffDirectory.map fun e => { kind := e.kind, auth := e.auth, count := e.count, fixedAt := some e.first } }

/-- A committed bank with those tables. -/
def tariffBank : Bank :=
  { mem := tariffMem, header := some { manifest := tariffManifest, directory := tariffDirectory }
    mark := .programmed 19 true, role := .active, pins := 0 }

/-- The part in service with those tables ACTIVE in bank 1. -/
def onRoute : State := { live with tables := { live.tables with bank1 := tariffBank } }

/-- A PRESENTATION payload: ticket A of 05 section 5.2. -/
def ticketA : List Byte :=
  [1] ++ be1 2 ++ be4 881200 ++ be2 120 ++ be2 412 ++ be2 600 ++ be2 412 ++ be2 840 ++ [2, 2, 3, 1, 0]
    ++ be2 210 ++ be2 211

/-- Ticket A as intake records it. -/
def recordA : Presentation :=
  { source := .reader, tag := 12, intakeTime := { day := 412, minute := 655 }, medium := .card
    key := { auth := 2, serial := 881200 }, product := 120, validStart := { day := 412, minute := 600 }
    validEnd := { day := 412, minute := 840 }, origin := some 210, destination := some 211, zones := []
    category := .reduced, count := 2, clamped := false, trips := none, upgrades := none, attested := true }

/-- The snapshot of 05 section 5.1: BETWEEN(4, 5) on route 3, coach 7, demand 0, (412, 655). -/
def snapA : Snapshot :=
  { pos := .between 4, route := some 3, length := some 5, coach := 7, demand := 0, now := { day := 412, minute := 655 }
    valid := true, run := 3, history := [], wrapped := false }

/-- The evaluation of ticket A. -/
def contextA : EvalContext := { pres := recordA, bank := some 1, generation := 19, snap := snapA }

/-- An empty memory with the default window. -/
def emptyView : MemoryView := { slots := [], pendingCount := 0, window := 30 }

/-! ## Frames -/

/-- The check of "123456789" is 10673 (11 section 11.1). -/
theorem test_check_value : crc [49, 50, 51, 52, 53, 54, 55, 56, 57] = 10673 := by decide +kernel
theorem test_payload_ticketA : (readPresentation ticketA).map (recordOf .reader 12 { day := 412, minute := 655 }) = some recordA := by
  decide +kernel
/-- A broken check leaves nothing; a whole frame behind noise is received. -/
theorem test_receive : receive [0, 126, 82, 0, 0, 0, 0] = .failed [82, 0, 0, 0, 0]
    ∧ receive (7 :: frameBytes 82 [] ++ [5]) = .frame 82 [] [5] := by decide +kernel

/-! ## Intake (01) -/

/-- 01, tags across the wrap. -/
theorem test_tags : freeTag 254 [0, 254] = 255 ∧ freeTag 0 [0, 254, 255] = 1 ∧ freeTag 2 [0, 1, 254, 255] = 2 := by decide +kernel
theorem test_presentation : (after (.presentation (frameBytes 1 ticketA)) live).intake.queue
    = [{ recordA with tag := 0, intakeTime := { day := 0, minute := 0 } }] := by decide +kernel
theorem test_present : statuses (after .present (framed 16 ticketA (crowded live))) = [(16, some .ok)] := by decide +kernel
theorem test_intakeFlush :
    let t := after .intakeFlush (framed 17 [] { live with intake := { live.intake with queue := [recordA] } })
    t.intake.queue = [] ∧ t.reader.sending = some (.tap (.notReadTag 12)) := by decide +kernel

/-! ## Clock and position (02) -/

/-- 02, corrections on a running clock: a TIME 1 minute early leaves the clock and a debt of 1. -/
theorem test_time : (after .time (framed 32 (be2 412 ++ be2 604)
      { live with position := { live.position with clock := { day := 412, minute := 605 } } })).position
    = { live.position with clock := { day := 412, minute := 605 }, valid := true, debt := 1 } := by decide +kernel
/-- 02, reports on route 3: DEPART(3, 1) pushes stop 210. -/
theorem test_depart :
    let t := after .depart (framed 33 [3, 1, 1, 156, 2, 88] onRoute)
    t.position.pos = .between 1 ∧ t.position.history.map Departure.code = [210] := by decide +kernel
theorem test_depart_last : statuses (after .depart (framed 33 [3, 5, 1, 156, 2, 88] onRoute)) = [(33, some .badArg)] := by decide +kernel
theorem test_arrive : (after .arrive (framed 34 [3, 3, 1, 156, 2, 88] onRoute)).position.pos = .atStop 3 := by decide +kernel
theorem test_switch : (after .switch (framed 35 [5, 2, 1, 156, 2, 88] onRoute)).position.length = some 2 := by decide +kernel
theorem test_coach : (after .coach (framed 36 [32, 0, 1] live)).position.coach = 32
    ∧ statuses (after .coach (framed 36 [33, 0, 1] live)) = [(36, some .badArg)] := by decide +kernel
theorem test_runStart : (after .runStart (framed 37 [0, 7] live)).journal.queue.map (fun e => (e.run, e.body))
    = [(7, .runStart)] := by decide +kernel
theorem test_minuteTick : (after .minuteTick live).position.clock = { day := 0, minute := 1 }
    ∧ (after .minuteTick live).timeBase = 60000 := by decide +kernel

/-! ## Tables (03, 04) -/

/-- 03, coverage on route 3: ticket A covers stops 1 and 2 of the five. -/
theorem test_coverage : (productLookup tariffBank 2 120).map (fun p => [1, 2, 3, 4, 5].map (indexCovered tariffBank p recordA 3))
    = some [true, true, false, false, false] := by decide +kernel
/-- 03, coverage on route 3: ticket B, from 210 to 230, takes the zone branch. -/
theorem test_zone_branch : ((bankStops tariffBank).take 3).map (fun s => zoneBranch tariffBank 2 210 230 s.fields)
    = [true, true, false] := by decide +kernel
/-- The manifest of 04, an accepted placement. -/
def manifestAccepted : RawManifest :=
  { generation := 20, epochDay := 400, auths := [{ code := 2, rank := 1 }, { code := 5, rank := 2 }]
    segs := [{ kind := SegKind.routes.wire, auth := 0, count := 384, placement := 1, block := 0 },
      { kind := SegKind.tones.wire, auth := 0, count := 12, placement := 1, block := 6 },
      { kind := SegKind.rates.wire, auth := 2, count := 1, placement := 0, block := 0 },
      { kind := SegKind.zones.wire, auth := 2, count := 63, placement := 0, block := 0 },
      { kind := SegKind.products.wire, auth := 2, count := 420, placement := 0, block := 0 },
      { kind := SegKind.rates.wire, auth := 5, count := 1, placement := 0, block := 0 },
      { kind := SegKind.zones.wire, auth := 5, count := 30, placement := 0, block := 0 },
      { kind := SegKind.products.wire, auth := 5, count := 90, placement := 0, block := 0 },
      { kind := SegKind.revocation.wire, auth := 0, count := 600, placement := 0, block := 0 }] }
/-- The first blocks of that example. -/
theorem test_placement : ((openManifest 19 manifestAccepted).toOption.map fun x => x.2.map DirEntry.first)
    = some [0, 6, 7, 16, 32, 72, 76, 80, 96] := by decide +kernel
/-- 04, a manifest refused with NO_ROOM: REVOCATION, at position 7, finds no place. -/
theorem test_no_room : openManifest 19
      { manifestAccepted with
        segs := [{ kind := SegKind.routes.wire, auth := 0, count := 512, placement := 1, block := 128 },
          { kind := SegKind.rates.wire, auth := 2, count := 1, placement := 0, block := 0 },
          { kind := SegKind.zones.wire, auth := 2, count := 63, placement := 0, block := 0 },
          { kind := SegKind.products.wire, auth := 2, count := 512, placement := 0, block := 0 },
          { kind := SegKind.rates.wire, auth := 5, count := 1, placement := 0, block := 0 },
          { kind := SegKind.zones.wire, auth := 5, count := 12, placement := 0, block := 0 },
          { kind := SegKind.products.wire, auth := 5, count := 512, placement := 0, block := 0 },
          { kind := SegKind.revocation.wire, auth := 0, count := 4096, placement := 0, block := 0 }] }
    = .error { status := .noRoom, check := 3, position := 7 } := by decide +kernel
theorem test_readSegment : (bankStops tariffBank).map (fun s => (s.index, s.border, s.split, s.request))
    = [(1, false, false, false), (2, false, false, true), (3, true, true, false), (4, false, false, false),
       (5, false, false, false), (1, false, false, false), (2, false, false, false)] := by decide +kernel

/-! ## Evaluation and fares (05, 06) -/

/-- 05, ticket A beyond its destination. -/
theorem test_ticketA :
    let v := (workChecks (some tariffBank) contextA emptyView).1
    v.cls = .supplementDue ∧ v.reason = .extension ∧ v.amount = 990 ∧ v.consume = false ∧ v.stopIndex = some 5
      ∧ v.runs = [{ auth := 2, zones := 2, amount := 470 }, { auth := 5, zones := 2, amount := 520 }] := by decide +kernel
/-- 05, the expiry rule, first and third histories. -/
theorem test_expiry :
    let prod : ProductRec := { code := 120, kind := .single, mode := .originDest, entitlement := 0, maxPassengers := 4,
                               grace := 10, honored := 0 }
    let p := { recordA with validEnd := { day := 412, minute := 700 } }
    let dep (i code zone minute : Nat) : Departure :=
      { route := 3, index := i, code := code, auth := 2, zone := zone, time := { day := 412, minute := minute } }
    let s := { snapA with now := { day := 412, minute := 760 } }
    expiryRule tariffBank prod p { s with history := [dep 1 210 4 690, dep 2 211 5 702, dep 3 215 7 731] }
        = .grace .begunBeforeExpiry (.begun 210 { day := 412, minute := 690 })
      ∧ expiryRule tariffBank prod p { s with history := [dep 3 215 7 731] } = .decided .reject .expired false := by decide +kernel
/-- 06, a penalty fare, and its SENIOR variant. -/
theorem test_penalty :
    (walk tariffBank { kind := .penalty, first := false, category := .adult, count := 1 } 3 3 5).amount = 3190
      ∧ (walk tariffBank { kind := .penalty, first := false, category := .senior, count := 1 } 3 3 5).amount = 2940 := by
  decide +kernel
/-- 06, the same walk in first class. -/
theorem test_first_class :
    (walk tariffBank { kind := .supplement, first := true, category := .reduced, count := 2 } 3 2 5).amount = 1485 := by
  decide +kernel

/-! ## Inspection Memory (07) -/

/-- 07, slot computation. -/
theorem test_slots : [(2, 881200), (2, 881034), (5, 1585), (1, 901)].map
      (fun k : Nat × Nat => (primarySlot { auth := k.1, serial := k.2 }, alternateSlot { auth := k.1, serial := k.2 }))
    = [(1242, 218), (1076, 52), (1242, 218), (1242, 218)] := by decide +kernel
theorem test_window : minutesSince { day := 412, minute := 1900 } { day := 413, minute := 10 } = 30
    ∧ minutesSince { day := 413, minute := 10 } { day := 412, minute := 1900 } = 0 := by decide +kernel

/-! ## Journal (08), terminal link (09), Annunciator (10) -/

theorem test_entryProgramDone :
    let t := after .entryProgramDone
      { live with journal := { live.journal with op := some .program, queue := [noteEntry], headSector := 2, headSlot := 63 } }
    t.journal.slots = [(191, .part noteEntry 0)] ∧ t.journal.headSlot = 64 ∧ t.journal.highest = 9 := by decide +kernel
theorem test_headMove : (after .headMove { crowded live with journal := { (crowded live).journal with headSector := 63, headSlot := 64 } }).journal.headSector
    = 0 := by decide +kernel
/-- A VERDICT entry of 8 runs takes 2 slots and 2 more (R130). -/
theorem test_entrySlots :
    let v := (workChecks none contextA emptyView).1
    entrySlots (.verdict { v with runs := List.replicate 7 { auth := 2, zones := 2, amount := 470 } } .reader .card recordA.key 120) = 3
      ∧ entrySlots (.verdict { v with runs := List.replicate 8 { auth := 2, zones := 2, amount := 470 } } .reader .card recordA.key 120) = 4 := by
  decide +kernel
/-- Recovery of a ring with one entry of number 9: the next number is 26, 17 on. -/
theorem test_recovery :
    let t := after .startedEntry (after .recoveryReadDone
      { State.reset with journal := { State.reset.journal with slots := [(130, .part noteEntry 0)] } })
    t.journal.queue.map (fun e => (e.seq, e.body)) = [(26, .started .powerOnAbrupt 0)] ∧ t.journal.headSector = 2
      ∧ t.journal.headSlot = 3 := by decide +kernel
/-- A CONFIG of hold 2, which is moved to 4; the resume watermark follows to 3. -/
theorem test_config :
    let t := after .config (framed 80 [16, 0, 0, 0, 0, 2, 0] live)
    t.settings = { live.settings with hold := 4, resume := 3 } ∧ statuses t = [(80, some .okClamped)] := by decide +kernel
theorem test_queries : statuses (after .queryDirectory (framed 81 [2] live)) = [(81, some .ok)]
    ∧ statuses (after .queryMemory (framed 81 [4, 2, 0, 0, 0, 1] live)) = [(81, some .ok)]
    ∧ statuses (after .queryHistory (framed 81 [3, 0] live)) = [(81, some .badArg)] := by decide +kernel
/-- R165: the urgencies; and 10, a burst of verdicts: SUPPLEMENT_DUE drops the oldest entry below 2. -/
theorem test_patterns :
    let pat (c : VClass) : Pattern := patternFor none c
    let a : Annunciator := { playing := some (startPattern 0 (pat .reject))
                             queue := [pat .accept, pat .accept, pat .acceptGrace, pat .accept] }
    (a.take 0 (pat .supplementDue)).queue.map Pattern.cls = [.accept, .acceptGrace, .accept, .supplementDue]
      ∧ (a.take 0 (pat .accept)) = a
      ∧ ((a.take 0 (pat .supplementDue)).complete 0).playing.map (fun p => p.pattern.cls) = some .supplementDue := by decide +kernel

/-! ## Hypotheses met: the machine and its supply -/

/-- The part without supply. -/
def dark : State := { State.reset with powered := false }
/-- A state with one of its blocks changed. -/
def onJournal (f : Journal → Journal) (s : State) : State := { s with journal := f s.journal }
def onTables (f : TableStore → TableStore) (s : State) : State := { s with tables := f s.tables }
def onPort (f : TerminalPort → TerminalPort) (s : State) : State := { s with port := f s.port }
def onPosition (f : PositionUnit → PositionUnit) (s : State) : State := { s with position := f s.position }
def onMemory (f : InspectionMemory → InspectionMemory) (s : State) : State := { s with memory := f s.memory }
def onCauses (f : HoldCauses → HoldCauses) (s : State) : State :=
  { s with intake := { s.intake with causes := f s.intake.causes } }

/-- A state with one number left, and one in the drain of a restart dispatched in SHUT. -/
def lastLeft (s : State) : State := onJournal (fun j => { j with nextSeq := 4294967295 }) s
def inDrain (s : State) : State := onJournal (fun j => { j with mode := .shut }) (onCauses (fun c => { c with restarting := true }) s)
/-- The places an offered entry finds in a state, and in it with the Journal FULL, the write queue full, the last number
left, or a restart draining. -/
abbrev placesMet (p : Producer) (s : State) : Prop :=
  s.placeFree ∧ (full s).dropsEntries ∧ (crowded s).noPlace ∧ p ∉ (crowded s).journal.waiting ∧ (lastLeft s).lastPlace
    ∧ (inDrain s).placeFree

theorem witness_StepRunsTheFrontCommand :
    ∃ (c : Instr) (rest : List Instr) (s : State), s.pending = c :: rest :=
  ⟨.minuteTick, [], { live with pending := [.minuteTick] }, rfl⟩
theorem witness_IdleAndUnpoweredSteps : (live.pending = [] ∧ live.powered = true)
    ∧ (dark.pending = [] ∧ dark.powered = false) ∧ ∀ low, Instr.minuteTick ≠ .powerOn low := by decide +kernel
theorem witness_StepKeepsBounds : State.reset.bounded = true ∧ ∃ t, step State.reset = .next t :=
  ⟨by decide +kernel, _, rfl⟩
theorem witness_FramesWaitAtDispatch : Instr.time ∈ dispatchRows
    ∧ 8 ≤ (onPort (fun p => { p with responses := List.replicate 8 { cls := 32, reply := none } }) live).port.responses.length
    ∧ State.reset.journal.mode = .recovering
    ∧ (onCauses (fun c => { c with restarting := true }) live).intake.causes.restarting = true
    ∧ ownerBusy .runStart (onPosition (fun p => { p with outgoing := some { body := .runStart, cls := 37, content := [] } }) live)
    ∧ ownerBusy .loadAbandon (onTables (fun t => { t with outgoing := some (.commit 20 400 19 .scheduled) }) live)
    ∧ ownerBusy .loadOpen (onTables (fun t => { t with checking := true }) live)
    ∧ ownerBusy .loadRecord (onTables (fun t => { t with op := some (.recordProgram 0 0 [] 0) }) live)
    ∧ ownerBusy .shutdown (onJournal (fun j => { j with control := some .closed }) live) :=
  ⟨by decide +kernel, by decide +kernel, by decide +kernel, by decide +kernel, .inl (by decide +kernel),
    .inr (.inl ⟨by decide +kernel, .inl (by decide +kernel)⟩), .inr (.inl ⟨by decide +kernel, .inr (.inl rfl)⟩),
    .inr (.inl ⟨by decide +kernel, .inr (.inr ⟨_, _, _, _, rfl⟩)⟩), .inr (.inr (by decide +kernel))⟩
theorem witness_FrameRoundTrip :
    255 < 256 ∧ (List.replicate 1024 (0 : Byte)).length ≤ 1024 ∧ syncByte ∉ ([125, 127] : List Byte) := by decide +kernel
theorem witness_PowerOnValues : dark.powered = false := rfl
/-- A committed bank of a generation. -/
def bankOf (g : Nat) : Bank :=
  { tariffBank with header := some { manifest := { tariffManifest with generation := g }, directory := tariffDirectory }
                    mark := .programmed g true }
theorem erased_noMark (g : Nat) : ¬Bank.erased.committedAs g := fun h => nomatch h.1
/-- Both banks of the part without supply. -/
def darkWith (b0 b1 : Bank) : State := onTables (fun t => { t with bank0 := b0, bank1 := b1 }) dark
theorem witness_StartupChoice :
    (∀ b0 b1, (darkWith b0 b1).powered = false ∧ ∃ t, exec (.powerOn false) (darkWith b0 b1) = .next t)
    ∧ ((darkWith (bankOf 1) Bank.erased).tables.bank0.committedAs 1
      ∧ ∀ h, ¬(darkWith (bankOf 1) Bank.erased).tables.bank1.committedAs h)
    ∧ ((∀ g, ¬(darkWith Bank.erased (bankOf 1)).tables.bank0.committedAs g)
      ∧ (darkWith Bank.erased (bankOf 1)).tables.bank1.committedAs 1)
    ∧ ((darkWith (bankOf 2) (bankOf 1)).tables.bank0.committedAs 2 ∧ (darkWith (bankOf 2) (bankOf 1)).tables.bank1.committedAs 1
      ∧ 1 ≤ 2)
    ∧ ((darkWith (bankOf 1) (bankOf 1)).tables.bank0.committedAs 1 ∧ (darkWith (bankOf 1) (bankOf 1)).tables.bank1.committedAs 1
      ∧ 1 ≤ 1)
    ∧ ((darkWith (bankOf 1) (bankOf 2)).tables.bank0.committedAs 1 ∧ (darkWith (bankOf 1) (bankOf 2)).tables.bank1.committedAs 2)
    ∧ ((∀ g, ¬dark.tables.bank0.committedAs g) ∧ ∀ h, ¬dark.tables.bank1.committedAs h) :=
  ⟨fun _ _ => ⟨rfl, _, rfl⟩, ⟨⟨rfl, rfl⟩, erased_noMark⟩, ⟨erased_noMark, rfl, rfl⟩, ⟨⟨rfl, rfl⟩, ⟨rfl, rfl⟩, by decide⟩,
    ⟨⟨rfl, rfl⟩, ⟨rfl, rfl⟩, by decide⟩, ⟨⟨rfl, rfl⟩, rfl, rfl⟩, erased_noMark, erased_noMark⟩
/-- A program of the head entry in flight. -/
def programming (s : State) : State := onJournal (fun j => { j with op := some .program, queue := [noteEntry] }) s
theorem witness_PowerLossKeepsFlash : (live.powered = true ∧ live.tables.op = none ∧ live.journal.op = none)
    ∧ (∀ op ∈ [TableOp.headerProgram 0, .headerProgram 1, .markProgram 0 .immediate, .markProgram 1 .scheduled],
      (onTables (fun t => { t with op := some op }) live).powered = true
        ∧ (onTables (fun t => { t with op := some op }) live).tables.op = some op)
    ∧ (programming live).powered = true ∧ (programming live).journal.op = some .program
    ∧ (programming live).journal.queue = [noteEntry] ∧ risingKeys (programming live).journal.slots = true := by decide +kernel
theorem witness_SupplyLowLine : (live.powered = true ∧ live.supplyLow = false)
    ∧ ({ live with supplyLow := true } : State).powered = true := by decide +kernel

/-! ## Hypotheses met: intake -/

/-- Ticket A's payload read, with a count and a medium. -/
def payloadA (count : Nat) (medium : Medium) : PresPayload :=
  { medium := medium, key := recordA.key, product := 120, validStart := recordA.validStart, validEnd := recordA.validEnd
    category := .reduced, count := count, origin := some 210, destination := some 211, trips := none, upgrades := none
    attested := true, zones := [] }
theorem witness_RecordCompleted : (payloadA 0 .card).count = 0 ∧ 9 < (payloadA 10 .card).count
    ∧ (1 ≤ (payloadA 1 .card).count ∧ (payloadA 9 .card).count ≤ 9) ∧ (payloadA 1 .paper).medium = .paper
    ∧ (payloadA 1 .card).medium ≠ .paper := by decide +kernel
theorem witness_TagIsFirstFree : 255 ≤ 255 ∧ (List.range 18).length ≤ 18 := by decide +kernel
/-- The Intake Queue at a depth. -/
def queued (n : Nat) (s : State) : State := { s with intake := { s.intake with queue := List.replicate n recordA } }
theorem witness_ReaderPresentationTaken :
    (∀ s ∈ [queued 13 live, queued 14 live], s.powered = true
      ∧ wholeFrame [1] (s.reader.rx ++ frameBytes 1 ticketA) = some (1, ticketA, [])
      ∧ readPresentation ticketA = some (payloadA 2 .card))
    ∧ (wholeFrame [1] (live.reader.rx ++ frameBytes 1 [1]) = some (1, [1], []) ∧ readPresentation [1] = none)
    ∧ (queued 13 live).intake.queue.length < 14 ∧ 14 ≤ (queued 14 live).intake.queue.length := by decide +kernel
theorem witness_KeyedPresentationAnswered :
    ((framed 16 [] live).holdsFrame 16 [] ∧ readPresentation [] = none)
    ∧ (∀ n ∈ [13, 14], (framed 16 ticketA (queued n live)).holdsFrame 16 ticketA
      ∧ readPresentation ticketA = some (payloadA 2 .card))
    ∧ 14 ≤ (queued 14 live).intake.queue.length
    ∧ ((queued 13 live).intake.queue.length < 14 ∧ live.intake.causes.safe = false ∧ live.intake.causes.shutdown = false) := by
  decide +kernel
theorem witness_FlushEmptiesTheQueue :
    (framed 17 [] (queued 14 live)).holdsFrame 17 [] ∧ (framed 17 [] (queued 14 live)).bounded = true := by decide +kernel
theorem witness_FramesReceivedOrLost : live.powered = true
    ∧ receive (live.reader.rx ++ [126, 82, 0, 0, 0, 0]) = .failed [82, 0, 0, 0, 0]
    ∧ (receive (live.reader.rx ++ frameBytes 3 []) = .frame 3 [] [] ∧ 3 ≠ 1 ∧ 3 ≠ 2)
    ∧ receive (live.port.rx ++ [126, 82, 0, 0, 0, 0]) = .failed [82, 0, 0, 0, 0]
    ∧ (receive (live.port.rx ++ frameBytes 3 []) = .frame 3 [] [] ∧ 3 ∉ classesToward .terminal)
    ∧ (receive (live.port.rx ++ frameBytes 82 []) = .frame 82 [] [] ∧ 82 ∈ classesToward .terminal)
    ∧ live.port.input = none ∧ (framed 82 [] live).port.input ≠ none := by decide +kernel
/-- The reader's transmitter at work. -/
def sendingNow (asSent : Bool) (taps : List TapResult) : State :=
  { live with reader := { rx := [], asSent := asSent, taps := taps, sending := some .resume } }
theorem witness_ReaderTransmitterChooses : (sendingNow true []).powered = true ∧ (sendingNow true []).reader.sending ≠ none
    ∧ (sendingNow true []).intake.causes.wanted ≠ (sendingNow true []).reader.asSent
    ∧ (sendingNow false [.notRead]).intake.causes.wanted = (sendingNow false [.notRead]).reader.asSent
    ∧ (sendingNow false []).reader.taps = [] := by decide +kernel

/-! ## Hypotheses met: clock and position -/

/-- The clock at a minute of day 412. -/
def atMinute (m : Nat) (s : State) : State := onPosition (fun p => { p with clock := { day := 412, minute := m } }) s
/-- A TIME of (412, 600), and the clock at a minute. -/
def timed (m : Nat) : State := framed 32 (be2 412 ++ be2 600) (atMinute m live)
theorem witness_TimeFrameApplied : ∃ t : Time, readTime (be2 412 ++ be2 600) = some t
    ∧ (∀ m ∈ [600, 602, 603], (timed m).holdsFrame 32 (be2 412 ++ be2 600) ∧ (timed m).position.outgoing = none)
    ∧ (timed 600).position.clock.atOrBefore t = true
    ∧ (t.day = (timed 602).position.clock.day ∧ t.minute < (timed 602).position.clock.minute
      ∧ (timed 602).position.clock.minute ≤ t.minute + 2)
    ∧ (t.before (timed 603).position.clock = true
      ∧ ¬(t.day = (timed 603).position.clock.day ∧ (timed 603).position.clock.minute ≤ t.minute + 2)) :=
  ⟨⟨412, 600⟩, by decide +kernel⟩
theorem witness_MinuteTickMovesTheClock : live.powered = true
    ∧ (0 < (onPosition (fun p => { p with debt := 1 }) live).position.debt)
    ∧ ((atMinute 1918 live).position.debt = 0 ∧ (atMinute 1918 live).position.clock.minute < 1919)
    ∧ ((atMinute 1919 live).position.debt = 0 ∧ (atMinute 1919 live).position.clock.minute = 1919) := by decide +kernel
/-- A position on route 3. -/
def standing (pos : PosState) (s : State) : State :=
  onPosition (fun p => { p with pos := pos, route := some 3, length := some 5 }) s
/-- A report's payload for (412, 600), and the report. -/
def report (route index : Nat) : List Byte := be1 route ++ be1 index ++ be2 412 ++ be2 600
def reportOf (route index : Nat) : Report := { route := route, index := index, time := { day := 412, minute := 600 } }
theorem witness_DepartMovesTheTrain :
    (∀ s ∈ [onRoute, standing (.atStop 4) onRoute, standing (.between 3) onRoute],
      (framed 33 (report 3 4) s).holdsFrame 33 (report 3 4) ∧ s.position.outgoing = none ∧ placesMet .position s
        ∧ s.tables.activeIndex = some 1 ∧ s.tables.bank1 = tariffBank)
    ∧ readReport (report 3 4) = some (reportOf 3 4) ∧ onRoute.hasStop tariffBank (reportOf 3 4)
    ∧ 4 < routeLength tariffBank 3 ∧ (stopAt tariffBank 3 4).isSome
    ∧ (4 ≤ (reportOf 3 4).index ∧ 3 < (reportOf 3 4).index) := by decide +kernel
theorem witness_ArriveAndSwitchStandAtTheStop :
    (∀ s ∈ [onRoute, standing (.atStop 3) onRoute, standing (.between 3) onRoute], s.position.outgoing = none
      ∧ (framed 34 (report 3 4) s).holdsFrame 34 (report 3 4) ∧ (framed 35 (report 3 4) s).holdsFrame 35 (report 3 4))
    ∧ readReport (report 3 4) = some (reportOf 3 4) ∧ onRoute.hasStop tariffBank (reportOf 3 4)
    ∧ (3 < (reportOf 3 4).index ∧ 3 + 1 ≤ (reportOf 3 4).index) := by decide +kernel
/-- A position and a report of a class, with the tables or without. -/
def reported (cls route index : Nat) (pos : PosState) (s : State) : State :=
  framed cls (report route index) (standing pos s)
theorem witness_PositionFramesRefused :
    ((framed 32 [0] live).holdsFrame 32 [0] ∧ (framed 32 [0] live).position.outgoing = none ∧ readTime [0] = none)
    ∧ ((framed 33 [0] live).holdsFrame 33 [0] ∧ readReport [0] = none)
    ∧ ((reported 33 3 4 (.atStop 4) live).holdsFrame 33 (report 3 4) ∧ ∀ b, ¬(reported 33 3 4 (.atStop 4) live).hasStop b (reportOf 3 4))
    ∧ ((reported 33 3 5 (.atStop 4) onRoute).holdsFrame 33 (report 3 5)
      ∧ ∃ b, (reported 33 3 5 (.atStop 4) onRoute).tables.active = some b ∧ (reportOf 3 5).index = routeLength b 3)
    ∧ ((reported 33 3 3 (.atStop 4) onRoute).holdsFrame 33 (report 3 3)
      ∧ (reported 33 3 3 (.atStop 4) onRoute).hasStop tariffBank (reportOf 3 3) ∧ 3 < routeLength tariffBank 3
      ∧ ∃ j, (reported 33 3 3 (.atStop 4) onRoute).position.pos = .atStop j ∧ 3 < j)
    ∧ ((reported 34 3 4 (.atStop 4) onRoute).holdsFrame 34 (report 3 4)
      ∧ (reported 34 3 4 (.atStop 4) onRoute).hasStop tariffBank (reportOf 3 4)
      ∧ ∃ j, (reported 34 3 4 (.atStop 4) onRoute).position.pos = .atStop j ∧ 4 ≤ j)
    ∧ ((reported 34 3 3 (.between 3) onRoute).holdsFrame 34 (report 3 3)
      ∧ (reported 34 3 3 (.between 3) onRoute).hasStop tariffBank (reportOf 3 3)
      ∧ ∃ j, (reported 34 3 3 (.between 3) onRoute).position.pos = .between j ∧ 3 ≤ j)
    ∧ ((reported 34 5 1 (.between 3) onRoute).holdsFrame 34 (report 5 1)
      ∧ (reported 34 5 1 (.between 3) onRoute).hasStop tariffBank (reportOf 5 1)
      ∧ (reported 34 5 1 (.between 3) onRoute).position.route ≠ some 5) :=
  ⟨by decide +kernel, by decide +kernel, ⟨by decide +kernel, fun b h => nomatch h.1⟩,
    ⟨by decide +kernel, tariffBank, by decide +kernel⟩,
    ⟨by decide +kernel, by decide +kernel, by decide +kernel, 4, by decide +kernel⟩,
    ⟨by decide +kernel, by decide +kernel, 4, by decide +kernel⟩,
    ⟨by decide +kernel, by decide +kernel, 3, by decide +kernel⟩, by decide +kernel⟩
theorem witness_CoachAndDemandSet : (framed 36 [32, 0, 1] live).holdsFrame 36 [32, 0, 1] ∧ live.position.outgoing = none
    ∧ readCoach [32, 0, 1] = some (32, 1) ∧ (framed 36 [33, 0, 1] live).holdsFrame 36 [33, 0, 1]
    ∧ readCoach [33, 0, 1] = some (33, 1) := by decide +kernel
theorem witness_RunStartBeginsARun :
    ∀ s ∈ [live, { live with evaluator := .evaluating contextA }], (framed 37 [0, 1] s).holdsFrame 37 [0, 1]
      ∧ s.position.outgoing = none ∧ (framed 37 [0, 1] s).bounded = true ∧ readRunStart [0, 1] = some 1 ∧ 1 ≠ 0
      ∧ placesMet .position (framed 37 [0, 1] s) := by decide +kernel

/-! ## Hypotheses met: the tables -/

/-- The bytes of `manifestAccepted` (11 section 11.7), with a generation. -/
def manifestBytes (generation : Nat) : List Byte :=
  be4 generation ++ be2 400 ++ [2, 9, 2, 1, 5, 2]
    ++ manifestAccepted.segs.flatMap fun x => be1 x.kind ++ be1 x.auth ++ be2 x.count ++ be1 x.placement ++ be1 x.block
/-- The load engine in a state, with the load of route 3's tables. -/
def loading (e : EngineState) (s : State) : State :=
  onTables (fun t => { t with
    engine := e
    load := some { target := 0, manifest := tariffManifest, directory := tariffDirectory
                   received := tariffDirectory.map fun x => List.range x.count } }) s
/-- That load. -/
def routeLoad : Load :=
  { target := 0, manifest := tariffManifest, directory := tariffDirectory
    received := tariffDirectory.map fun x => List.range x.count }

theorem test_manifest_read : readManifest (manifestBytes 20) = some manifestAccepted := by decide +kernel
theorem witness_LoadOpenTaken :
    (∀ e ∈ [EngineState.idle, .committing], (framed 48 (manifestBytes 20) (loading e onRoute)).holdsFrame 48 (manifestBytes 20)
      ∧ tablesReady (loading e onRoute) = true)
    ∧ readManifest (manifestBytes 20) = some manifestAccepted ∧ ((loading .committing onRoute).tables.engineNow ≠ .idle
      ∧ ∀ x ∈ manifestAccepted.segs, 1 ≤ x.kind ∧ x.kind ≤ 6 ∧ x.placement ≤ 1)
    ∧ onRoute.tables.engineNow = .idle
    ∧ (∃ e, (framed 48 (manifestBytes 19) onRoute).holdsFrame 48 (manifestBytes 19)
      ∧ openManifest 19 { manifestAccepted with generation := 19 } = .error e)
    ∧ (openManifest onRoute.tables.activeGeneration manifestAccepted).toOption.isSome :=
  ⟨by decide +kernel, by decide +kernel, by decide +kernel, by decide +kernel,
    ⟨{ status := .badArg, check := 1, position := Config.openRefusalPosition 0 }, by decide +kernel, rfl⟩, by decide +kernel⟩
theorem witness_DirectoryFits : ∃ m d, openManifest 19 manifestAccepted = .ok (m, d) := by
  have h : (openManifest 19 manifestAccepted).toOption.isSome = true := by decide +kernel
  cases e : openManifest 19 manifestAccepted with
  | error x => rw [e] at h; cases h
  | ok x => exact ⟨x.1, x.2, rfl⟩
theorem witness_StagingEraseProceeds :
    (∀ k ∈ [0, 15], ∀ s ∈ [onTables (fun t => { t with erased := k }) (loading .opening live)], s.powered = true
      ∧ s.tables.load = some routeLoad ∧ s.tables.engine = .opening ∧ s.tables.op = none ∧ s.tables.erased < 16
      ∧ (s.tables.bank 0).role = .staging ∧ (s.tables.bank 0).pins = 0 ∧ s.intake.causes.safe = false
      ∧ s.intake.causes.restarting = false)
    ∧ (∀ k ∈ [0, 15], ∀ s ∈ [onTables (fun t => { t with erased := k, op := some (.eraseSector 0 k) }) (loading .opening live)],
      s.tables.load = some routeLoad ∧ s.tables.engine = .opening ∧ s.tables.op = some (.eraseSector 0 k) ∧ s.tables.erased = k ∧ k < 16
      ∧ s.tables.abandoning = false ∧ (s.tables.bank 0).role = .staging ∧ (s.tables.bank 0).pins = 0)
    ∧ ∀ s ∈ [onTables (fun t => { t with op := some (.headerProgram 0) }) (loading .opening live)],
      s.tables.load = some routeLoad ∧ s.tables.op = some (.headerProgram 0) ∧ s.tables.abandoning = false := by decide +kernel
/-- The load with the last two of the seven stops not yet received, and its bank as programmed. -/
def partly (received : List Nat) (s : State) : State :=
  onTables (fun t => { t with bank0 := { tariffBank with role := .staging }
                              load := some { routeLoad with received := routeLoad.received.set 0 received } })
    (loading .loading s)
/-- A LOAD_RECORD of the seven stops from a first index. -/
def stopsFrame (first count : Nat) (data : List Byte) : List Byte := be1 0 ++ be2 first ++ be1 count ++ data
theorem witness_RecordsLoaded :
    (∀ x ∈ [(loading .opening live), (loading .closed live), partly [0, 1, 2, 3, 4] live, partly (List.range 7) live],
      (framed 49 (stopsFrame 0 7 routeBytes) x).holdsFrame 49 (stopsFrame 0 7 routeBytes) ∧ tablesReady x = true)
    ∧ readRecordFrame (stopsFrame 0 7 routeBytes) = some { position := 0, first := 0, count := 7, data := routeBytes }
    ∧ (loading .opening live).tables.engineNow = .opening
    ∧ ((loading .closed live).tables.engineNow ≠ .opening ∧ (loading .closed live).tables.engineNow ≠ .loading)
    ∧ (partly [] live).tables.engineNow = .loading
    ∧ (readRecordFrame (stopsFrame 1 7 routeBytes) = some { position := 0, first := 1, count := 7, data := routeBytes }
      ∧ ∀ e ∈ routeLoad.directory[0]?, e.count < 1 + 7)
    ∧ (1 ≤ 7 ∧ 7 ≤ 32 ∧ 0 + 7 ≤ 7 ∧ routeBytes.length = 7 * 4)
    ∧ (routeLoad.directory[0]?.map fun e =>
      (((frameRecords e { position := 0, first := 0, count := 7, data := routeBytes.set 24 0 }).find? fun r =>
          (List.range 7).contains r.1 && readPart e.kind 0 (recordBytes tariffMem e r.1) != readPart e.kind 0 r.2).map Prod.fst,
        (frameRecords e { position := 0, first := 0, count := 7, data := routeBytes }).all fun r =>
          readPart e.kind 0 (recordBytes tariffMem e r.1) == readPart e.kind 0 r.2,
        ((frameRecords e { position := 0, first := 0, count := 7, data := routeBytes }).filter fun r => !([0, 1, 2, 3, 4] : List Nat).contains r.1).map Prod.fst,
        ((frameRecords e { position := 0, first := 0, count := 7, data := routeBytes }).filter fun r => !(List.range 7).contains r.1).map Prod.fst))
      = some (some 6, true, [5, 6], [])
    ∧ ∀ s ∈ [onTables (fun t => { t with op := some (.recordProgram 0 0 [(6, [0, 0, 0, 0])] 0) }) (partly [] live)],
      s.powered = true ∧ s.tables.op = some (.recordProgram 0 0 [(6, [0, 0, 0, 0])] 0) ∧ s.tables.load.isSome
      ∧ (s.tables.load.bind fun l => l.directory[0]?).isSome := by decide +kernel
theorem witness_TableFlashBytes : Memory.wf tariffMem = true ∧ (([(0, [1, 2, 3, 4]), (6, [5, 6, 7, 8])] : List (Nat × List Byte)).map Prod.fst).Nodup
    ∧ (∀ e ∈ tariffDirectory.head?, ∀ r ∈ ([(0, [1, 2, 3, 4]), (6, [5, 6, 7, 8])] : List (Nat × List Byte)), r.2.length = recordSize e.kind e.count)
    ∧ ∀ e ∈ tariffDirectory.head?, ∀ r ∈ ([(0, [1, 2, 3, 4]), (6, [5, 6, 7, 8])] : List (Nat × List Byte)),
      28 < recordAddr e r.1 ∨ recordAddr e r.1 + recordSize e.kind e.count ≤ 28 := by decide +kernel
theorem witness_LoadClosed :
    (∀ x ∈ [(loading .opening live), (loading .closed live), partly [0, 1, 2, 3, 4] live, partly (List.range 7) live],
      (framed 50 [] x).holdsFrame 50 [] ∧ tablesReady x = true)
    ∧ (loading .opening live).tables.engineNow = .opening
    ∧ ((loading .closed live).tables.engineNow ≠ .opening ∧ (loading .closed live).tables.engineNow ≠ .loading)
    ∧ (partly [0, 1, 2, 3, 4] live).tables.engineNow = .loading
    ∧ missingRecord 0 tariffDirectory (routeLoad.received.set 0 [0, 1, 2, 3, 4]) = some (0, 5)
    ∧ missingRecord 0 tariffDirectory (routeLoad.received.set 0 (List.range 7)) = none
    ∧ contentFailure tariffManifest tariffMem 0 tariffDirectory = some (2, 0)
    ∧ contentFailure tariffManifest tariffMem 0 (tariffDirectory.take 2) = none
    ∧ ∀ d ∈ [tariffDirectory, tariffDirectory.take 2], ∀ s ∈ [onTables (fun t => { t with
          checking := true, load := some { routeLoad with directory := d } }) (partly [] live)],
        s.powered = true ∧ s.tables.checking = true ∧ s.tables.load = some { routeLoad with directory := d }
        ∧ (s.tables.bank 0).mem = tariffMem := by decide +kernel
/-- A LOAD_COMMIT payload with a service time of day 412. -/
def commitAt (m : Nat) : List Byte := be1 1 ++ be2 412 ++ be2 m
theorem witness_CommitTaken :
    (∀ e ∈ [EngineState.closed, .scheduled, .loading], ∀ p ∈ [[0, 0, 0, 0, 0], commitAt 600, commitAt 601],
      (framed 51 p (atMinute 600 (loading e live))).holdsFrame 51 p ∧ tablesReady (loading e live) = true
        ∧ (loading e live).tables.engineNow = e)
    ∧ readCommitNow [0, 0, 0, 0, 0] = true
    ∧ (readCommitTime (commitAt 600) = some ⟨412, 600⟩ ∧ (⟨412, 600⟩ : Time).atOrBefore (atMinute 600 live).position.clock = true)
    ∧ (readCommitTime (commitAt 601) = some ⟨412, 601⟩ ∧ (atMinute 600 live).position.clock.before ⟨412, 601⟩ = true)
    ∧ ∀ s ∈ [onTables (fun t => { t with commitDue := some .scheduled }) (loading .closed live)], s.powered = true
      ∧ s.tables.commitDue = some .scheduled ∧ s.tables.op = none ∧ s.tables.load = some routeLoad := by decide +kernel
/-- A commit mark being programmed in a bank, the other bank ACTIVE with a pin or without, the train AT_STOP(6). -/
def marking (n pins : Nat) (kind : CommitKind) : State :=
  standing (.atStop 6) (onTables (fun t => { t with
    bank0 := { tariffBank with role := if n = 0 then .staging else .active, pins := if n = 0 then 0 else pins }
    bank1 := { tariffBank with role := if n = 0 then .active else .staging, pins := if n = 0 then pins else 0 }
    engine := .committing, load := some { routeLoad with target := n }, op := some (.markProgram n kind) }) live)
theorem witness_CommitTakesEffect :
    ∀ n ∈ [0, 1], ∀ pins ∈ [0, 1], ∀ kind ∈ [CommitKind.immediate, .scheduled], (marking n pins kind).powered = true ∧ n ≤ 1
      ∧ (marking n pins kind).tables.op = some (.markProgram n kind) ∧ (marking n pins kind).tables.outgoing = none
      ∧ placesMet .tables (marking n pins kind) := by decide +kernel
theorem witness_LoadAbandoned :
    (∀ e ∈ [EngineState.idle, .opening, .loading, .closed, .scheduled, .committing],
      (framed 52 [] (loading e live)).holdsFrame 52 [] ∧ tablesReady (loading e live) = true
      ∧ (loading e live).tables.engineNow = e ∧ (loading e live).tables.op = none)
    ∧ (∀ s ∈ [onTables (fun t => { t with op := some (.eraseSector 0 15), abandoning := true }) (loading .opening live)],
      s.powered = true ∧ (framed 52 [] s).holdsFrame 52 [] ∧ tablesReady s = true ∧ s.tables.engineNow = .opening
      ∧ s.tables.op = some (.eraseSector 0 15) ∧ s.tables.abandoning = true)
    ∧ ∀ s ∈ [onTables (fun t => { t with op := some (.headerProgram 0), abandoning := true }) (loading .opening live)],
      s.powered = true ∧ s.tables.op = some (.headerProgram 0) ∧ s.tables.abandoning = true ∧ s.tables.load = some routeLoad := by
  decide +kernel

/-! ## Hypotheses met: evaluation and the memory -/

theorem witness_EvaluationBegins :
    ∀ s ∈ [queued 14 live, queued 1 onRoute], s.powered = true ∧ s.evaluator = .idle ∧ s.intake.queue.head? = some recordA
      ∧ s.intake.causes.safe = false ∧ s.intake.causes.shutdown = false ∧ s.intake.causes.restarting = false
      ∧ s.journal.mode ≠ .recovering := by decide +kernel
theorem witness_ChecksComplete : ∀ s ∈ [{ onRoute with evaluator := .evaluating contextA }], s.powered = true
    ∧ s.evaluator = .evaluating contextA ∧ placesMet .evaluator s := by decide +kernel
/-- A verdict that waits: ticket A's, with consume YES or NO. -/
def verdictA (consume : Bool) : Verdict := { (workChecks none contextA emptyView).1 with consume := consume }
def awaiting (consume : Bool) (w : JournalWait) (deferred : Bool) : State :=
  onMemory (fun m => { m with clearDeferred := deferred, pendingList := [{ tag := 3, key := recordA.key, expiry := 40 }] })
    { onRoute with evaluator := .awaiting contextA (verdictA consume) w, settings := { onRoute.settings with policy := .early } }
theorem witness_VerdictIssued :
    (∀ consume ∈ [true, false], ∀ w ∈ [JournalWait.dropped, .completed 9, .queued 9], ∀ d ∈ [true, false],
      (awaiting consume w d).powered = true ∧ (awaiting consume w d).evaluator = .awaiting contextA (verdictA consume) w
      ∧ (awaiting consume w d).port.notices.length ≤ 16 ∧ (awaiting consume w d).port.dropped ≤ 255
      ∧ (awaiting consume w d).settings.policy = .early ∧ (awaiting consume w d).memory.clearDeferred = d) := by decide +kernel
/-- A part that holds three tags, with a command that issues the verdict that waits. -/
def holdingTags : State :=
  { awaiting true .dropped false with
    intake := { live.intake with queue := [{ recordA with tag := 13 }] }, pending := [.verdictIssue] }
theorem witness_TagsStayDistinct : holdingTags.bounded = true ∧ holdingTags.tagsDistinct
    ∧ heldTags holdingTags = [13, 12, 3] ∧ ∃ t, step holdingTags = .next t :=
  ⟨by decide +kernel,
    ⟨by decide +kernel, fun c v w h => by
      simp only [holdingTags, awaiting, onMemory, Evaluator.awaiting.injEq] at h; obtain ⟨rfl, rfl, rfl⟩ := h; decide +kernel⟩,
    by decide +kernel, _, rfl⟩
theorem witness_EarlyStagesDecide :
    issuerDeclared tariffBank 6 = false ∧ issuerDeclared tariffBank 2 = true ∧ revoked tariffBank recordA.key = false
    ∧ revoked { tariffBank with header := some { manifest := tariffManifest, directory :=
        [{ kind := .revocation, auth := 0, count := 1, first := 6, length := 1 }] }, mem := writeBytes [] 1536 (keyBytes recordA.key) }
        recordA.key = true
    ∧ recordA.attested = true ∧ productLookup tariffBank 2 121 = none
    ∧ (productLookup tariffBank 2 120).map ProductRec.maxPassengers = some 4 ∧ 4 < { recordA with count := 5 }.count := by decide +kernel
theorem witness_VerdictRecordIsSound :
    (workChecks (some tariffBank) contextA emptyView).1.pos ≠ .unknown ∧ (workChecks none contextA emptyView).1.pos = .unknown
    ∧ (workChecks none contextA emptyView).1.flags.noPosition = true := by decide +kernel
theorem witness_RunAmountSteps : ∀ u ∈ [(ratesOf rates2).unit, (ratesOf rates5).unit, 1], 1 ≤ u := by decide +kernel
/-- A sighting of a key. -/
def sighting (auth serial : Nat) (trip : TripState) : Sighting :=
  { key := { auth := auth, serial := serial }, product := 120, time := { day := 412, minute := 600 }, coach := 7
    lastClass := .accept, trip := trip }
/-- The slots 1242 and 218 of 07's example, held by the third and fourth keys. -/
def heldSlots (trip : TripState) : List (Nat × Sighting) := [(218, sighting 1 901 trip), (1242, sighting 5 1585 trip)]
/-- The update of the first key, which shares them. -/
def updateA : SightingUpdate := { key := recordA.key, product := 120, coach := 7, now := { day := 412, minute := 655 }, cls := .accept }
/-- Ticket A as a carnet with some trips, in a bank where authority 5's penalty is 65535. -/
def carnetBank : Bank := { tariffBank with mem := writeBytes (writeByte tariffMem 770 4) 1037 [255, 255] }
def carnetA (trips count : Nat) : EvalContext :=
  { contextA with pres := { recordA with trips := some trips, count := count, clamped := true } }
/-- Ticket A's key held with a trip state; and ticket A shown at a minute beyond its end, the history wrapped or not. -/
def holdingA (trip : TripState) : MemoryView :=
  { emptyView with slots := [(primarySlot recordA.key, { key := recordA.key, product := 120, time := { day := 412, minute := 600 }
                                                         coach := 7, lastClass := .accept, trip := trip })] }
def lateA (minute : Nat) (oldest : Option Nat) : EvalContext :=
  { contextA with snap := { snapA with
      now := { day := 412, minute := minute }, wrapped := oldest.isSome
      history := oldest.toList.map fun t => { route := 4, index := 1, code := 9, auth := 5, zone := 1, time := { day := 412, minute := t } } } }
theorem witness_VerdictRecordIsSound_reasons :
    ((workChecks (some carnetBank) (carnetA 1 2) emptyView).1.consume = true)
    ∧ (let v := (workChecks (some carnetBank) (carnetA 1 2) (holdingA .pending)).1
       v.flags.pendingConsume = true ∧ v.flags.recheck = true ∧ v.consume = false ∧ v.flags.countClamped = true)
    ∧ (let v := (workChecks (some carnetBank) (carnetA 0 2) emptyView).1
       v.reason = .noTrips ∧ v.flags.saturated = true ∧ v.amount = 65535 ∧ v.pos ≠ .unknown)
    ∧ (let v := (workChecks (some tariffBank) (lateA 850 none) emptyView).1
       v.flags.grace = true ∧ v.reason = .extension) := by decide +kernel
theorem witness_VerdictRecordIsSound_history :
    (let v := (workChecks (some tariffBank) (lateA 851 (some 839)) emptyView).1
     v.reason = .expired ∧ v.flags.historyShort = true)
    ∧ (let v := (workChecks (some tariffBank) (lateA 851 (some 840)) emptyView).1
       v.reason = .expiredUncertain ∧ v.flags.historyShort = true)
    ∧ (let v := (workChecks (some tariffBank) (lateA 851 none) emptyView).1
       v.reason = .expired ∧ v.flags.historyShort = false)
    ∧ (workChecks (some tariffBank) contextA { emptyView with slots := heldSlots .taken }).1.flags.unremembered = true
    ∧ (let v := (workChecks (some tariffBank)
          { contextA with snap := { snapA with pos := .atStop 2 } } (holdingA .none)).1
       v.cls = .accept ∧ v.reason = .recheck ∧ v.flags.recheck = true)
    ∧ (workChecks (some tariffBank)
          { lateA 845 none with snap := { (lateA 845 none).snap with pos := .atStop 2 } } emptyView).1.cls = .acceptGrace := by
  decide +kernel
theorem witness_SlotsOfAKey : findSighting (heldSlots .none) { auth := 1, serial := 901 } = some (218, sighting 1 901 .none)
    ∧ (1 ≤ 1 ∧ 1 ≤ 6 ∧ 1 ≤ 6 ∧ 6 ≤ 6 ∧ 1 ≠ 6)
    ∧ primarySlot recordA.key = primarySlot { auth := 5, serial := 1585 }
    ∧ primarySlot { auth := 2, serial := 881200 + 1024 } = alternateSlot recordA.key := by decide +kernel
theorem witness_ProtectedTripsSurvive : risingKeys (heldSlots .taken) = true ∧ lookupAt (heldSlots .taken) 218 = some (sighting 1 901 .taken)
    ∧ (sighting 1 901 .taken).trip ≠ .none ∧ (remember (heldSlots .taken) 30 updateA).2 = false
    ∧ (remember (heldSlots .none) 30 updateA).2 = true ∧ tripOf (heldSlots .none) updateA.key = none
    ∧ tripOf (heldSlots .none) { auth := 1, serial := 901 } = some .none := by decide +kernel
/-- A trip that pends, with some entries in the resolution queue. -/
def resolving (n : Nat) : State :=
  onMemory (fun m => { m with pendingList := [{ tag := 12, key := recordA.key, expiry := 3000 }]
                              resolutions := List.replicate n { tag := 1, key := recordA.key, outcome := .timedOut, run := 3 } }) live
/-- A CONSUME_REPORT payload for ticket A's key. -/
def consumed (tag outcome : Nat) : List Byte := be1 tag ++ keyBytes recordA.key ++ be1 outcome
theorem witness_TripsResolve :
    ((placesMet .memory (resolving 0) ∧ (resolving 0).memory.resolutions = [])
      ∧ (∀ s ∈ [onJournal (fun j => { j with mode := .recovering }) (resolving 0)], s.journal.full = none
        ∧ s.journal.mode = .recovering ∧ s.memory.resolutions = [])
      ∧ ((resolving 3).journal.full = none ∧ (resolving 3).memory.resolutions ≠ [] ∧ (resolving 3).memory.resolutions.length < 4)
      ∧ 4 ≤ (resolving 4).memory.resolutions.length)
    ∧ (∀ n ∈ [0, 3, 4], ∀ p ∈ [consumed 12 1, consumed 13 1, consumed 13 2, []], (resolving n).powered = true
      ∧ wholeFrame [2] ((resolving n).reader.rx ++ frameBytes 2 p) = some (2, p, []))
    ∧ (readConsumeReport [] = none ∧ readConsumeReport (consumed 12 1) = some (12, recordA.key, .written)
      ∧ readConsumeReport (consumed 13 1) = some (13, recordA.key, .written)
      ∧ readConsumeReport (consumed 13 2) = some (13, recordA.key, .notWritten))
    ∧ (∃ p ∈ (resolving 0).memory.pendingList, p.tag = 12 ∧ p.key = recordA.key)
    ∧ (∀ p ∈ (resolving 0).memory.pendingList, p.tag = 13 → p.key ≠ recordA.key) :=
  ⟨by decide +kernel, by decide +kernel, by decide +kernel, by decide +kernel, by decide +kernel⟩

/-! ## Hypotheses met: the Journal -/

/-- A producer at the head of the waiting list, seven entries queued. -/
def waits (p : Producer) (s : State) : State :=
  onJournal (fun j => { j with waiting := [p], queue := List.replicate 7 noteEntry }) s
/-- An entry in the control place. -/
def controlled (c : ControlItem) (s : State) : State := onJournal (fun j => { j with control := some c }) s
theorem witness_WaitingEntryTakesThePlace :
    (∀ p ∈ [Producer.evaluator, .position, .tables, .memory, .control], (waits p live).powered = true
      ∧ (waits p live).journal.waiting = [p] ∧ (waits p live).journal.queue.length < 8 ∧ (waits p live).journal.mode = .opened
      ∧ (waits p live).journal.full = none ∧ (waits p live).journal.nextSeq < 4294967295 ∧ (waits p (inDrain live)).takesEntries)
    ∧ (awaiting true .place false).evaluator = .awaiting contextA (verdictA true) .place
    ∧ (onPosition (fun p => { p with outgoing := some { body := .runStart, cls := 37, content := [] } }) live).position.outgoing
      = some { body := .runStart, cls := 37, content := [] }
    ∧ (∀ k ∈ [CommitKind.scheduled, .immediate],
      (onTables (fun t => { t with outgoing := some (.commit 20 400 19 k) }) live).tables.outgoing = some (.commit 20 400 19 k))
    ∧ ((resolving 1).memory.resolutions.length = 1 ∧ (resolving 2).memory.resolutions.length = 2)
    ∧ (∀ c ∈ [ControlItem.note [], .mark 9 true, .started .warm 19, .closed], (controlled c live).journal.control = some c)
    ∧ ∀ s ∈ [onJournal (fun j => { j with nextSeq := 4294967295, waiting := [.control, .evaluator, .position, .tables, .memory] })
        (controlled (.note []) (awaiting true .place false))], s.journal.nextSeq = 4294967295
      ∧ draftOf s .control = some { body := .note [], run := none }
      ∧ s.evaluator = .awaiting contextA (verdictA true) .place
      ∧ (∀ p ∈ [Producer.evaluator, .position, .tables, .memory], p ∈ s.journal.waiting.tail)
      ∧ s.journal.waiting.head? = some .control := by decide +kernel
/-- A journal whose head stands at a slot, with an entry to program. -/
def headAt (sector slot mark : Nat) (slots : List (Nat × JSlot)) : State :=
  onJournal (fun j => { j with headSector := sector, headSlot := slot, mark := mark, slots := slots, queue := [noteEntry] }) live
/-- A verdict entry under number 9, and a CLOSED entry. -/
def verdictEntry : Entry := { noteEntry with body := .verdict (verdictA false) .reader .card recordA.key 120 }
def closedEntry : Entry := { noteEntry with body := .closed }
theorem witness_EntriesAreProgrammed :
    (∀ s ∈ [headAt 63 63 0 []], s.powered = true ∧ s.journal.op = none ∧ s.journal.mode ≠ .recovering ∧ eraseDue s = false
      ∧ s.journal.queue = [noteEntry] ∧ s.journal.headSlot + entrySlots noteEntry.body ≤ 64)
    ∧ (∀ e ∈ [noteEntry, closedEntry, verdictEntry], ∀ s ∈ [{ onJournal (fun j => { j with op := some .program, queue := [e] }) live with
          evaluator := .awaiting contextA (verdictA false) (.queued 9) }], s.powered = true ∧ s.journal.op = some .program
      ∧ s.journal.queue = [e] ∧ risingKeys s.journal.slots = true
      ∧ s.evaluator = .awaiting contextA (verdictA false) (.queued e.seq))
    ∧ closedEntry.body = .closed ∧ noteEntry.body ≠ .closed
    ∧ 0 + entrySlots noteEntry.body + entrySlots verdictEntry.body ≤ 64 := by decide +kernel
/-- The last slot of sector 63 being programmed, a VERDICT entry behind it, and an entry of number 9 in sector 0. -/
def lastSlot (mark : Nat) : State :=
  onJournal (fun j => { j with op := some .program, queue := [noteEntry, verdictEntry] })
    (headAt 63 63 mark [(0, .part noteEntry 0)])
theorem witness_EntriesAreProgrammed_blocked :
    (∀ mark ∈ [8, 9], (lastSlot mark).powered = true ∧ (lastSlot mark).journal.op = some .program
      ∧ (lastSlot mark).journal.queue = [noteEntry, verdictEntry] ∧ risingKeys (lastSlot mark).journal.slots = true
      ∧ (lastSlot mark).journal.waiting = [] ∧ 64 < 63 + entrySlots noteEntry.body + entrySlots verdictEntry.body
      ∧ ((lastSlot mark).journal.programmed noteEntry [verdictEntry]).sectorState ((63 + 1) % 64) = .inUse)
    ∧ (∃ f ∈ sectorEntries ((lastSlot 8).journal.programmed noteEntry [verdictEntry]).slots 0, 8 < f.seq)
    ∧ (∀ f ∈ sectorEntries ((lastSlot 9).journal.programmed noteEntry [verdictEntry]).slots 0, f.seq ≤ 9)
    ∧ (∀ c v n, (lastSlot 8).evaluator ≠ .awaiting c v (.queued n))
    ∧ (∃ f ∈ [verdictEntry], f.seq = 9 ∧ f.body = .verdict (verdictA false) .reader .card recordA.key 120)
    ∧ { lastSlot 8 with evaluator := .awaiting contextA (verdictA false) (.queued 9) }.evaluator
      = .awaiting contextA (verdictA false) (.queued 9) :=
  ⟨by decide +kernel, by decide +kernel, by decide +kernel, (fun _ _ _ h => by cases h), by decide +kernel, rfl⟩
/-- A full head sector 63, and an entry of number 9 in sector 0. -/
def atSectorEnd (mark : Nat) (slots : List (Nat × JSlot)) : State := headAt 63 64 mark slots
theorem witness_HeadMoves :
    (∀ s ∈ [atSectorEnd 0 [], atSectorEnd 8 [(0, .part noteEntry 0)],
        onPort (fun p => { p with stream := [9] }) (atSectorEnd 9 [(0, .part noteEntry 0)])], s.powered = true
      ∧ s.journal.op = none ∧ s.journal.mode ≠ .recovering ∧ eraseDue s = false ∧ s.journal.queue = [noteEntry]
      ∧ 64 < s.journal.headSlot + entrySlots noteEntry.body ∧ (s.journal.headSector + 1) % 64 = 0 ∧ s.journal.full = none)
    ∧ (onJournal (fun j => { j with op := some (.erase 0) }) (atSectorEnd 9 [(0, .part noteEntry 0)])).journal.op
      = some (.erase 0)
    ∧ eraseDue (atSectorEnd 9 [(0, .part noteEntry 0)]) = true
    ∧ (atSectorEnd 0 []).journal.sectorState 0 = .erased
    ∧ ((atSectorEnd 9 [(0, .part noteEntry 0)]).journal.sectorState 0 = .inUse
      ∧ ∀ f ∈ sectorEntries [(0, .part noteEntry 0)] 0, f.seq ≤ 9)
    ∧ ((atSectorEnd 8 [(0, .part noteEntry 0)]).journal.sectorState 0 = .inUse
      ∧ ∃ f ∈ sectorEntries [(0, .part noteEntry 0)] 0, 8 < f.seq)
    ∧ (∀ s ∈ [onJournal (fun j => { j with queue := [verdictEntry] })
        { atSectorEnd 8 [(0, .part noteEntry 0)] with evaluator := .awaiting contextA (verdictA false) (.queued 9) }],
      eraseDue s = false ∧ s.journal.queue = [verdictEntry] ∧ 64 < s.journal.headSlot + entrySlots verdictEntry.body
      ∧ s.evaluator = .awaiting contextA (verdictA false) (.queued verdictEntry.seq)
      ∧ verdictEntry.body = .verdict (verdictA false) .reader .card recordA.key 120)
    ∧ (∀ s ∈ [onJournal (fun j => { j with waiting := [.evaluator, .position, .tables, .memory, .control] })
        { atSectorEnd 8 [(0, .part noteEntry 0)] with evaluator := .awaiting contextA (verdictA false) .place }],
      eraseDue s = false ∧ s.evaluator = .awaiting contextA (verdictA false) .place
      ∧ ∀ p ∈ [Producer.evaluator, .position, .tables, .memory], p ∈ s.journal.waiting)
    ∧ (atSectorEnd 8 [(0, .part noteEntry 0)]).evaluator = .idle := by decide +kernel
theorem witness_JournalSectorErased :
    (∀ s ∈ [headAt 63 64 9 [(0, .part noteEntry 0)]], s.powered = true ∧ s.journal.op = none ∧ eraseDue s = true
      ∧ (s.journal.headSector + 1) % 64 = 0)
    ∧ (∀ s ∈ [headAt 63 64 8 [(0, .part noteEntry 0)]], s.powered = true ∧ s.journal.op = none ∧ eraseDue s = false)
    ∧ (∀ m ∈ [JournalMode.opened, .recovering], ∀ f ∈ [none, some FullCause.noSector], ∀ s ∈ [onJournal (fun j => { j with
          mode := m, full := f, op := some (.erase 0), recovery := some { headSector := 63, highest := some 9, mark := 9, run := 3
                                                                          closedLast := false, toErase := [0], erased := 0 } })
        (headAt 63 64 9 [(0, .part noteEntry 0)])], s.powered = true ∧ s.journal.op = some (.erase 0) ∧ s.journal.mode = m
      ∧ s.journal.full = f ∧ s.journal.recovery.isSome) := by decide +kernel
theorem witness_ExportStreamFixed : ∀ s ∈ [headAt 63 64 9 [(0, .part noteEntry 0)]], ∀ n ∈ [1, 256],
    (framed 64 (be4 9 ++ be2 n) s).holdsFrame 64 (be4 9 ++ be2 n) ∧ s.journal.control = none
      ∧ readExportRead (be4 9 ++ be2 n) = some (9, n) := by decide +kernel
/-- A ring with an entry of number 9 complete, and the export mark. -/
def exported (mark : Nat) : State := onJournal (fun j => { j with slots := [(0, .part noteEntry 0)], mark := mark }) live
theorem witness_MarksAndNotesJournaled :
    (∀ v ∈ [8, 9, 10], ∀ m ∈ [8, 9], (framed 65 (be4 v) (exported m)).holdsFrame 65 (be4 v) ∧ (exported m).journal.control = none
      ∧ readExportMark (be4 v) = some v)
    ∧ (min 10 (exported 9).journal.highest ≤ (exported 9).journal.mark ∧ (exported 9).journal.highest < 10)
    ∧ min 9 (exported 9).journal.highest ≤ (exported 9).journal.mark
    ∧ (exported 8).journal.mark < min 9 (exported 8).journal.highest
    ∧ ((framed 66 (List.replicate 16 0) live).holdsFrame 66 (List.replicate 16 0) ∧ live.journal.control = none
      ∧ (List.replicate 16 (0 : Byte)).length = 16) := by decide +kernel
theorem witness_MarksAndNotesJournaled_mark : placesMet .control (exported 8) := by decide +kernel
theorem witness_MarksAndNotesJournaled_note : placesMet .control live := by decide +kernel
theorem witness_ShutdownCloses :
    (∀ m ∈ [JournalMode.opened, .shutting], ∀ s ∈ [onJournal (fun j => { j with mode := m }) live],
      (framed 67 [] s).holdsFrame 67 [] ∧ s.journal.control = none ∧ s.journal.mode = m)
    ∧ ∀ f ∈ [none, some FullCause.noSector], ∀ s ∈ [onJournal (fun j => { j with mode := .shutting, full := f }) live],
      s.powered = true ∧ s.journal.mode = .shutting ∧ s.intake.causes.restarting = false ∧ s.evaluator = .idle
      ∧ s.journal.queue = [] ∧ s.journal.waiting = [] ∧ s.journal.control = none ∧ s.journal.full = f
      ∧ s.journal.nextSeq < 4294967295 ∧ (lastLeft s).journal.nextSeq = 4294967295 := by decide +kernel
/-- Recovery with what its reading found. -/
def recovering (highest : Nat) (toErase : List Nat) : State :=
  let r : Recovery := { headSector := 0, highest := some highest, mark := 0, run := 3, closedLast := false
                        toErase := toErase, erased := 0 }
  onJournal (fun j => { j with mode := .recovering, recovery := some r }) live
/-- A ring of a RUN_START in sector 1, a MARK behind it, a torn slot in sector 5 and another in the head sector. -/
def ring : List (Nat × JSlot) :=
  [(64, .part { noteEntry with seq := 7, run := 4, body := .runStart } 0), (65, .part { noteEntry with seq := 8, body := .mark 7 } 0),
    (66, .torn), (320, .torn)]
theorem witness_RecoveryOpensTheJournal :
    (State.reset.powered = true ∧ State.reset.journal.mode = .recovering ∧ State.reset.journal.op = none
      ∧ State.reset.journal.recovery = none ∧ completeEntries State.reset.journal.slots = [])
    ∧ (risingKeys ring = true ∧ completeEntries ring ≠ [] ∧ ∃ x ∈ completeEntries ring, x.2.body = .runStart)
    ∧ (∀ h ∈ [9, 4294967278, 4294967279], ∀ l ∈ [[], [63]], (recovering h l).powered = true
      ∧ (recovering h l).journal.mode = .recovering ∧ (recovering h l).journal.op = none
      ∧ (recovering h l).journal.recovery.map (fun r => (r.toErase, r.highest)) = some (l, some h)
      ∧ (recovering h l).intake.causes.safe = false ∧ (recovering h l).journal.queue = [] ∧ (recovering h l).journal.waiting = []
      ∧ (recovering h l).memory.resolutions = [])
    ∧ (∀ s ∈ [{ recovering 9 [] with memory := (resolving 1).memory }], s.journal.queue = [] ∧ s.journal.waiting = []
      ∧ s.memory.resolutions.length = 1)
    ∧ (9 + 17 + 1 < 4294967295 ∧ 4294967278 + 17 = 4294967295 ∧ 4294967295 < 4294967279 + 17)
    ∧ (onCauses (fun c => { c with safe := true }) (recovering 9 [63])).intake.causes.safe = true := by decide +kernel
/-- R144 to R146 on that ring: head sector 1, mark 7, run 4, and sector 5 to be erased. -/
theorem test_ring : recoveryOf ring
    = { headSector := 1, highest := some 8, mark := 7, run := 4, closedLast := false, toErase := [5], erased := 0 } := by decide +kernel

/-! ## Hypotheses met: the terminal link and the Annunciator -/

theorem witness_ConfigSetsTheSettings :
    (framed 80 [63, 241, 2, 17, 4, 14, 14] live).holdsFrame 80 [63, 241, 2, 17, 4, 14, 14]
    ∧ readConfig [63, 241, 2, 17, 4, 14, 14] = some { window := some 241, policy := some .early, burst := some 17, volume := some 4
                                                      hold := some 14, resume := some 14 }
    ∧ live.settings.inRange = true := by decide +kernel
theorem witness_QueriesReadTheState :
    ∀ p ∈ [[1], [2], [3], [4, 2, 0, 13, 114, 48]], (framed 81 p live).holdsFrame 81 p := by decide +kernel
/-- A restart in its drain, with its responses. -/
def draining (l : List Response) : State :=
  onPort (fun p => { p with responses := l }) (onCauses (fun c => { c with restarting := true }) live)
theorem witness_RestartIsWarm :
    (∀ e ∈ [Evaluator.idle, .evaluating contextA], (framed 82 [] { onRoute with evaluator := e }).holdsFrame 82 []
      ∧ onRoute.memory.clearDeferred = false)
    ∧ (∀ s ∈ [{ awaiting true .place true with evaluator := .evaluating contextA }], (framed 82 [] s).holdsFrame 82 []
      ∧ s.memory.clearDeferred = true ∧ s.port.notices.length ≤ 16 ∧ s.port.dropped ≤ 255)
    ∧ (Evaluator.evaluating contextA).context = some contextA
    ∧ (∀ l ∈ [[{ cls := 82, reply := none }], ([] : List Response)], (draining l).powered = true
      ∧ (draining l).intake.causes.restarting = true ∧ (draining l).journal.queue = [] ∧ (draining l).journal.waiting = []
      ∧ (draining l).journal.op = none ∧ (draining l).tables.op = none ∧ (draining l).tables.checking = false
      ∧ (draining l).tables.commitDue = none ∧ (draining l).port.verdicts = [] ∧ (draining l).port.sending = none
      ∧ (draining l).port.responses = l) := by decide +kernel
/-- A port with something to send of each kind. -/
def sendable (responses : List Response) (verdicts : List Verdict) (notices : List Notice) (stream : List Nat) (burst : Option Nat) :
    State :=
  onPort (fun p => { p with responses := responses, verdicts := verdicts, notices := notices, stream := stream, burst := burst })
    (exported 0)
theorem witness_ArbiterChooses :
    (onPort (fun p => { p with sending := some (.response 82 (Reply.bare .ok)) }) live).port.sending
      = some (.response 82 (Reply.bare .ok))
    ∧ (sendable [] [] [] [9] (some 3)).port.sending = none
    ∧ (3 < live.settings.burst ∧ (entryOf (exported 0).journal.slots 9) = some noteEntry)
    ∧ live.settings.burst ≤ 4
    ∧ (sendable [{ cls := 82, reply := some (Reply.bare .ok) }] [] [] [] none).port.responses
      = [{ cls := 82, reply := some (Reply.bare .ok) }]
    ∧ (∀ x rest, (sendable [{ cls := 82, reply := none }] [] [] [] none).port.responses = x :: rest → x.reply = none)
    ∧ (sendable [] [verdictA false] [] [] none).port.verdicts = [verdictA false]
    ∧ (sendable [] [] [{ time := { day := 0, minute := 0 }, body := .supplySafe }] [] none).port.verdicts = []
    ∧ (sendable [] [] [] [9] none).port.notices = []
    ∧ restartReady (draining []) = true
    ∧ (∀ s ∈ [sendable [] [] [] [9] (some 3), sendable [{ cls := 82, reply := some (Reply.bare .ok) }] [] [] [] none,
      sendable [] [verdictA false] [] [] none, sendable [] [] [] [9] none], restartReady s = false) :=
  ⟨by decide +kernel, by decide +kernel, by decide +kernel, by decide +kernel, by decide +kernel,
    fun x rest h => by cases h; rfl, by decide +kernel, by decide +kernel, by decide +kernel, by decide +kernel,
    by decide +kernel⟩
/-- A manifest whose one segment has a kind that is not listed. -/
def unlistedManifest : RawManifest :=
  { generation := 20, epochDay := 400, auths := [{ code := 2, rank := 1 }]
    segs := [{ kind := 7, auth := 0, count := 1, placement := 0, block := 0 }] }
def unlistedBytes : List Byte := be4 20 ++ be2 400 ++ [1, 1, 2, 1, 7, 0, 0, 1, 0, 0]
theorem witness_MalformedPayloadsAnswered :
    (∀ x ∈ ([(17, [0]), (36, [0, 0]), (37, [0, 0]), (48, [0]), (49, [0, 0, 0]), (50, [0]), (51, [0]), (51, [1]), (52, [0]), (64, [0]),
        (65, [0]), (66, [0]), (67, [0]), (80, [0]), (81, [1, 0]), (81, [2, 0]), (81, [3, 0]), (81, [4]), (82, [0])] : List (Nat × List Byte)),
      (framed x.1 x.2 live).holdsFrame x.1 x.2)
    ∧ live.position.outgoing.isNone = true ∧ tablesReady live = true ∧ live.journal.control.isNone = true
    ∧ readManifest [0] = none ∧ (commitModeNow [0] = true ∧ [(0 : Byte)].length ≠ 5)
    ∧ (commitModeNow [1] = false ∧ readCommitTime [1] = none) ∧ readExportRead [0] = none ∧ readConfig [0] = none
    ∧ ((∃ x ∈ unlistedManifest.segs, x.kind < 1 ∨ 6 < x.kind ∨ 1 < x.placement)
      ∧ readManifest unlistedBytes = some unlistedManifest ∧ (framed 48 unlistedBytes live).holdsFrame 48 unlistedBytes)
    ∧ queryRow [1, 0] = 1 ∧ queryRow [2, 0] = 2 ∧ queryRow [3, 0] = 3 ∧ queryRow [4] = 4 := by decide +kernel
/-- The Annunciator playing a class with some classes waiting. -/
def plays (c : VClass) (l : List VClass) : Annunciator :=
  { playing := some (startPattern 0 (patternFor none c)), queue := l.map (patternFor none) }
theorem witness_PatternTakesItsPlace :
    Annunciator.initial.playing = none
    ∧ (patternFor none .accept).urgency < (patternFor none .refer).urgency
    ∧ ((patternFor none .accept).urgency ≤ (startPattern 0 (patternFor none .reject)).pattern.urgency
      ∧ (plays .reject [.accept, .accept, .refer]).queue.length < 4)
    ∧ (4 ≤ (plays .reject [.refer, .accept, .refer, .accept]).queue.length
      ∧ (plays .reject [.refer, .accept, .refer, .accept]).queue
        = [patternFor none .refer] ++ patternFor none .accept :: [patternFor none .refer, patternFor none .accept]
      ∧ (patternFor none .accept).urgency < (patternFor none .supplementDue).urgency
      ∧ ∀ x ∈ [patternFor none .refer], (patternFor none .supplementDue).urgency ≤ x.urgency)
    ∧ ∀ x ∈ (plays .reject [.refer, .accept, .refer, .accept]).queue, (patternFor none .accept).urgency ≤ x.urgency := by decide +kernel
theorem witness_PatternsPlayOn :
    (live.powered = true ∧ (plays .accept []).playing = some (startPattern 0 (patternFor none .accept)) ∧ (plays .accept []).queue = [])
    ∧ ((plays .reject [.accept, .refer, .accept]).queue
        = [patternFor none .accept] ++ patternFor none .refer :: [patternFor none .accept]
      ∧ (∀ x ∈ [patternFor none .accept], x.urgency < (patternFor none .refer).urgency ∧ x.urgency ≤ (patternFor none .refer).urgency))
    ∧ (∀ p ∈ [startPattern 0 { cls := .accept, urgency := 1, records := [[mkNote 1 49 8], [mkNote 2 37 30]] }],
      p.voice1.current ≠ none ∧ p.voice1.rest = [] ∧ p.voice2.current = none ∧ p.voice3.current = none
      ∧ p.records = [[mkNote 2 37 30]])
    ∧ (∀ p ∈ [startPattern 0 (patternFor none .reject)], p.voice1.current ≠ none
      ∧ p.voice1.endsAt ≤ p.voice2.endsAt ∧ p.voice1.endsAt ≤ p.voice3.endsAt)
    ∧ (∀ p ∈ [startPattern 0 { cls := .accept, urgency := 1, records := [[mkNote 1 49 8, mkNote 2 37 7, mkNote 3 20 7]] }],
      p.voice2.current ≠ none ∧ p.voice2.endsAt < p.voice1.endsAt ∧ p.voice2.endsAt ≤ p.voice3.endsAt)
    ∧ ∀ p ∈ [startPattern 0 { cls := .accept, urgency := 1, records := [[mkNote 1 49 8, mkNote 2 37 7, mkNote 3 20 6]] }],
      p.voice3.current ≠ none ∧ p.voice3.endsAt < p.voice1.endsAt ∧ p.voice3.endsAt < p.voice2.endsAt := by
  decide +kernel

/-! ## More commands, one step each -/

/-- R57, R18: with marks of generations 1 and 2 valid, the higher is ACTIVE; the line asserted gives HOLD first. -/
theorem test_powerOn :
    let t := after (.powerOn true) (darkWith (bankOf 1) (bankOf 2))
    t.tables.activeIndex = some 1 ∧ t.reader.sending = some .hold ∧ t.journal.mode = .recovering := by decide +kernel
theorem test_supplyLow : (after .supplyLowAsserted live).intake.causes.safe = true
    ∧ (after .supplyLowAsserted live).reader.sending = some .hold := by decide +kernel
/-- R64: the target is the bank that is not ACTIVE, and the response is held. -/
theorem test_loadOpen :
    let t := after .loadOpen (framed 48 (manifestBytes 20) onRoute)
    t.tables.engine = .opening ∧ t.tables.loadTarget = 0 ∧ statuses t = [(48, none)] := by decide +kernel
/-- R59, R173: outside IDLE a kind that is not listed is BAD_ARG, a listed one BAD_STATE. -/
theorem test_loadOpen_code : statuses (after .loadOpen (framed 48 unlistedBytes (loading .loading live))) = [(48, some .badArg)]
    ∧ statuses (after .loadOpen (framed 48 (manifestBytes 20) (loading .loading live))) = [(48, some .badState)] := by decide +kernel
/-- 11.7, R173: bits 14 to 12 of a stop record's last word are not read; a stop sent again with them set is no conflict. -/
theorem test_not_read :
    statuses (after .loadRecord (framed 49 (stopsFrame 0 1 ((stopBytes 3 2 4 210).set 2 112)) (partly (List.range 7) live)))
      = [(49, some .ok)] := by decide +kernel
/-- R65: after sector 15 the header program; with it LOADING and the OK. -/
theorem test_tableErase :
    let t := after .tableSectorEraseDone (onTables (fun x => { x with erased := 15, op := some (.eraseSector 0 15) }) (loading .opening live))
    t.tables.op = some (.headerProgram 0) ∧ (after .headerProgramDone t).tables.engine = .loading := by decide +kernel
/-- R68: two of seven stops are new; then they are received. -/
theorem test_loadRecord :
    let t := after .loadRecord (framed 49 (stopsFrame 0 7 routeBytes) (partly [0, 1, 2, 3, 4] live))
    (t.tables.op = some (.recordProgram 0 0 [(5, stopBytes 5 2 4 210), (6, stopBytes 5 2 9 230)] 5))
      ∧ ((after .recordProgramDone t).tables.load.map fun l => l.received.head?) = some (some [0, 1, 2, 3, 4, 5, 6]) := by
  decide +kernel
/-- R72: the committed bank is ACTIVE; the pinned one RETIRING. -/
theorem test_commit :
    let t := after .commitMarkDone (marking 0 1 .scheduled)
    t.tables.bank0.role = .active ∧ t.tables.bank1.role = .retiring ∧ t.position.pos = .unknown
      ∧ t.journal.queue.map Entry.body = [.commit 19 400 19 .scheduled] := by decide +kernel
theorem test_loadAbandon : statuses (after .loadAbandon (framed 52 [] (loading .committing live))) = [(52, some .badState)]
    ∧ (after .loadAbandon (framed 52 [] (loading .loading live))).tables.load = none := by decide +kernel
/-- R78, R80, R96: ticket A from the queue to its verdict under EARLY. -/
theorem test_evaluation :
    let s := { onRoute with position := { onRoute.position with
                              pos := .between 4, route := some 3, length := some 5, coach := 7
                              clock := { day := 412, minute := 655 } }
                            settings := { onRoute.settings with policy := .early } }
    let t := after .verdictIssue (after .checkCompletion (after .evaluationBegin (queued 1 s)))
    t.port.verdicts.map (fun v => (v.tag, v.cls, v.amount, v.seq)) = [(12, .supplementDue, 990, some 4294967294)]
      ∧ t.reader.sending = some (.tap (.verdict 12 .supplementDue .extension 990 false)) ∧ t.evaluator = .idle
      ∧ t.memory.slots.map Prod.fst = [1242] ∧ t.tables.bank1.pins = 0 := by decide +kernel
/-- R131, R137: FULL, EXHAUSTED, with an entry still queued that finds no sector: the notice carries NO_SECTOR. -/
theorem test_full_after_exhausted :
    let t := after .headMove (onJournal (fun j => { j with full := some .exhausted }) (atSectorEnd 8 [(0, .part noteEntry 0)]))
    t.port.sending.map TermFrame.bytes = some (frameBytes clsNotice (noticeBytes
        { time := live.position.clock, body := .journalFull .noSector 1 63 8 9 9 } 0))
      ∧ t.journal.full = some .exhausted ∧ t.journal.queue = [] := by decide +kernel
/-- R131: the last number makes the Journal FULL. -/
theorem test_exhausted :
    let t := after .note (framed 66 (List.replicate 16 0) (onJournal (fun j => { j with nextSeq := 4294967295 }) live))
    t.journal.full = some .exhausted ∧ t.journal.queue.map Entry.seq = [4294967295] := by decide +kernel
theorem test_exportMark : (after .exportMark (framed 65 (be4 10) (exported 8))).journal.mark = 9
    ∧ statuses (after .exportMark (framed 65 (be4 10) (exported 8))) = [(65, some .okClamped)] := by decide +kernel
theorem test_exportRead : (after .exportRead (framed 64 (be4 9 ++ be2 256) (exported 0))).port.stream = [9] := by decide +kernel
theorem test_shutdown :
    let t := after .closedEntry (onJournal (fun j => { j with mode := .shutting }) live)
    t.journal.mode = .shut ∧ t.journal.queue.map Entry.body = [.closed] := by decide +kernel
/-- R163, R164: the responses that wait end RESTARTED; the restart keeps the clock and goes to recovery. -/
theorem test_restart :
    statuses (after .drainEnd (draining [{ cls := 48, reply := none }, { cls := 82, reply := none }]))
        = [(48, some .badState), (82, some .ok)]
      ∧ (after .warmRestartEffect (atMinute 655 (draining []))).position.clock = { day := 412, minute := 655 }
      ∧ (after .warmRestartEffect (draining [])).journal.mode = .recovering := by decide +kernel
/-- R164: with RESTART's response sent, a notice that waits is dropped by the restart, not sent. -/
theorem test_restart_first :
    let s := onPort (fun p => { p with
        sending := some (.response 82 (Reply.bare .ok)), notices := [{ time := ⟨0, 0⟩, body := .supplySafe }] })
      (draining [{ cls := 82, reply := some (Reply.bare .ok) }])
    (after .terminalTxDone s).port.sending = none
      ∧ (after .warmRestartEffect (after .terminalTxDone s)).port = TerminalPort.initial := by decide +kernel
/-- R121, R124: the window expires, and its CONSUME entry is queued. -/
theorem test_consume :
    let t := after .consumeWindowExpiry (resolving 0)
    t.timeBase = 3000 ∧ t.memory.pendingList = [] ∧ t.journal.queue.map Entry.body = [.consume 12 recordA.key .timedOut] := by
  decide +kernel
theorem test_powerLoss : (after .powerLoss (programming live)).journal.slots = [(0, .torn)]
    ∧ (after .powerLoss (programming live)).powered = false := by decide +kernel
theorem test_journalErase :
    let s := headAt 63 64 9 [(0, .part noteEntry 0)]
    (after .journalEraseStart s).journal.op = some (.erase 0)
      ∧ (after .journalSectorEraseDone (after .journalEraseStart s)).journal.slots = [] := by decide +kernel
/-- R158: a response goes before a verdict. -/
theorem test_arbiter :
    let s := sendable [{ cls := 82, reply := some (Reply.bare .ok) }] [verdictA false] [] [] none
    (after .terminalTxDone (onPort (fun p => { p with sending := some (.notice { time := ⟨0, 0⟩, body := .supplySafe } 0) }) s)).port.sending
      = some (.response 82 (Reply.bare .ok)) := by decide +kernel
/-- R167, R169: a note of 80 ms ends the built-in ACCEPT. -/
theorem test_noteEnd :
    let s := { live with annunciator := plays .accept [.refer] }
    (after .noteEnd s).timeBase = 80
      ∧ (after .patternCompletion s).annunciator.playing.map (fun p => p.pattern.cls) = some .refer := by decide +kernel

end Sys2Proof.Tests
end

section
/-! SUPPORT. When a command acts: the dispatch of a frame that is held, and a frame whole on the reader link. -/

namespace Sys2Proof.Machine

/-- A row's frame in the input place, with R153's conditions and its owner ready, is dispatched. -/
theorem dispatchWhen_of_holdsFrame {cls : Nat} {payload : List Byte} {s : State} {owner : Bool}
    {takes : List Byte → Bool} (f : List Byte → State → State) (h : s.holdsFrame cls payload) (ho : owner = true)
    (ht : takes payload = true) :
    dispatchWhen cls owner takes f s = .next (settle (f payload (takeFrame s))) := by
  obtain ⟨hpow, hin, hlen, hmode, hres⟩ := h
  have hready : frameReady s = true := by simp [frameReady, State.restarting, hlen, hmode, hres]
  simp [dispatchWhen, act, hin, ht, ho, hready, hpow]

theorem dispatch_of_holdsFrame {cls : Nat} {payload : List Byte} {s : State} (f : List Byte → State → State)
    (h : s.holdsFrame cls payload) : dispatch cls true f s = .next (settle (f payload (takeFrame s))) :=
  dispatchWhen_of_holdsFrame f h rfl rfl

/-- A whole frame of the row's class on the reader link is acted on, its bytes taken (R151). -/
theorem onReaderFrame_of_wholeFrame {cls c : Nat} {bytes payload rest : List Byte} {s : State}
    (f : List Byte → State → State) (hpow : s.powered = true)
    (hw : wholeFrame [cls] (s.reader.rx ++ bytes) = some (c, payload, rest)) :
    onReaderFrame cls bytes f s = .next (settle (f payload (setRx .reader rest s))) := by
  simp [onReaderFrame, rxAfter, act, hw, hpow]

/-- R154: an entry for the frame that has just left the input place. -/
theorem respond_takeFrame (cls : Nat) (r : Reply) (s : State) :
    respond cls r (takeFrame s) = s.answered cls r := rfl

/-- The bounds stand when a frame is taken from the input place. -/
theorem State.Ok.takeFrame {s : State} (h : s.Ok) : (Machine.takeFrame s).Ok := h.setPort h.port

end Sys2Proof.Machine
end

section
/-! SUPPORT. The Intake Queue's operations: what enrolment, a discard on arrival and a flush make of the state. -/

namespace Sys2Proof.Machine

/-! ## The hold cause DEPTH -/

/-- R10: an empty queue takes DEPTH out, the hold watermark being above 0. -/
theorem depthAt_zero {s : State} (h : 0 < s.settings.hold) : s.depthAt 0 = false := by
  simp [State.depthAt, Nat.ne_of_gt h]

/-- R6, R7, R10: only the queue and DEPTH change. -/
theorem setQueue_eq (q : List Presentation) (s : State) :
    setQueue q s = s.setIntake
      { s.intake with queue := q, causes := { s.intake.causes with depth := s.depthAt q.length } } := rfl

/-! ## Admission -/

theorem recordedCount_zero : recordedCount 0 = 1 := rfl

theorem recordedCount_above {n : Nat} (h : 9 < n) : recordedCount n = 9 := by
  rw [recordedCount, if_neg (by omega)]
  exact Nat.min_eq_right h.le

theorem recordedCount_within {n : Nat} (h1 : 1 ≤ n) (h9 : n ≤ 9) : recordedCount n = n := by
  rw [recordedCount, if_neg (by omega)]
  exact Nat.min_eq_left h9

/-- R4: count clamped says that the count recorded is not the count received. -/
theorem recordOf_clamped (src : Source) (tag : Nat) (now : Time) (p : PresPayload) :
    (recordOf src tag now p).clamped = (recordedCount p.count != p.count) := rfl

theorem recordOf_attested_paper (src : Source) (tag : Nat) (now : Time) {p : PresPayload} (h : p.medium = .paper) :
    (recordOf src tag now p).attested = false := by
  simp [recordOf, h]

theorem recordOf_attested_other (src : Source) (tag : Nat) (now : Time) {p : PresPayload} (h : p.medium ≠ .paper) :
    (recordOf src tag now p).attested = p.attested := by
  simp [recordOf, h]

/-- R4 to R6, R10: the whole effect of an admission. -/
theorem enrol_eq (src : Source) (p : PresPayload) (s : State) :
    enrol src p s = s.setIntake
      { queue := s.intake.queue ++ [recordOf src (nextTag s) s.position.clock p]
        tagCounter := (nextTag s + 1) % 256
        causes := { s.intake.causes with depth := s.depthAt (s.intake.queue.length + 1) } } := by
  rw [enrol, setQueue_eq, List.length_append]
  rfl

/-! ## Discards -/

/-- R3, R8: NOT_READ without a tag joins the tap results, and DISCARDED the notices. -/
theorem discardArrival_eq (why : DiscardReason) (key : Option Key) (s : State) :
    discardArrival why key s
      = (s.noticed (.discarded why .reader none key s.position.clock)).setReader
          { s.reader with taps := s.reader.taps ++ [.notRead] } := rfl

/-- R13, R14, R156: the whole effect of emptying the queue. -/
theorem emptyQueue_eq (why : DiscardReason) {s : State} (h : s.Ok) :
    emptyQueue why s =
      { s with
        intake := { s.intake with queue := [], causes := { s.intake.causes with depth := false } }
        reader := { s.reader with taps := s.reader.taps ++ s.discardTaps }
        port := s.moreNotices (s.discardNotices why) } := by
  obtain ⟨-, hnotices, hdropped⟩ := h.port
  have hhold : 0 < s.settings.hold := by
    have hs := h.settings
    simp only [Settings.inRange, Bool.and_eq_true, decide_eq_true_eq] at hs
    omega
  have hdepth := depthAt_zero hhold
  rw [emptyQueue, setQueue_eq, discardAll_eq, addNotices_eq _ _ hnotices hdropped]
  simp only [State.setIntake, State.setReader, State.setPort, State.moreNotices, State.discardNotices,
    State.discardTaps, List.length_nil]
  rw [← hdepth]
  rfl

/-! ## The frames that bring a presentation -/

theorem takePresentation_malformed {payload : List Byte} (s : State) (h : readPresentation payload = none) :
    takePresentation payload s = discardArrival .malformed (payloadKey payload) s := by
  simp [takePresentation, h]

theorem takePresentation_room {payload : List Byte} {p : PresPayload} (s : State)
    (h : readPresentation payload = some p) (hroom : s.intake.queue.length < 14) :
    takePresentation payload s = enrol .reader p s := by
  simp [takePresentation, h, queueLimit, hroom]

theorem takePresentation_full {payload : List Byte} {p : PresPayload} (s : State)
    (h : readPresentation payload = some p) (hfull : 14 ≤ s.intake.queue.length) :
    takePresentation payload s = discardArrival .queueFull (some p.key) s := by
  simp [takePresentation, h, queueLimit, Nat.not_lt.mpr hfull]

theorem takeKeyed_malformed {payload : List Byte} (s : State) (h : readPresentation payload = none) :
    takeKeyed payload s = respond clsPresent (Reply.bare .badArg) s := by
  simp [takeKeyed, h]

theorem takeKeyed_busy {payload : List Byte} {p : PresPayload} (s : State) (h : readPresentation payload = some p)
    (hbusy : 14 ≤ s.intake.queue.length ∨ s.intake.causes.safe = true ∨ s.intake.causes.shutdown = true) :
    takeKeyed payload s = respond clsPresent (Reply.bare .busy) s := by
  have hno : ¬(s.intake.queue.length < queueLimit ∧ s.intakeClosed = false) := by
    rintro ⟨hroom, hopen⟩
    obtain ⟨hsafe, hshut⟩ := Bool.or_eq_false_iff.mp hopen
    rcases hbusy with hfull | h | h
    · exact absurd hroom (Nat.not_lt.mpr hfull)
    · simp [hsafe] at h
    · simp [hshut] at h
  simp only [takeKeyed, h, if_neg hno]

theorem takeKeyed_room {payload : List Byte} {p : PresPayload} (s : State) (h : readPresentation payload = some p)
    (hroom : s.intake.queue.length < 14) (hsafe : s.intake.causes.safe = false)
    (hshut : s.intake.causes.shutdown = false) :
    takeKeyed payload s = enrol .keyed p (respond clsPresent (Reply.with .ok (be1 (nextTag s))) s) := by
  simp [takeKeyed, h, queueLimit, hroom, State.intakeClosed, hsafe, hshut]

theorem flushQueue_nil (s : State) :
    flushQueue [] s = emptyQueue .flush (respond clsIntakeFlush (Reply.with .ok (be1 s.intake.queue.length)) s) := rfl

/-! ## The statements of the intake -/

/-- Settles O13: the record is the one that `enrol_eq` puts at the tail; its fields are `recordOf`'s. -/
theorem recordCompleted : Obligations.RecordCompleted := by
  refine ⟨fun src p s => ⟨recordOf src (nextTag s) s.position.clock p, ?_, rfl, rfl, rfl, ?_, ?_, ?_,
    recordOf_attested_paper _ _ _, recordOf_attested_other _ _ _,
    rfl, rfl, rfl, rfl, rfl, rfl, rfl, rfl, rfl, rfl, rfl⟩, fun _ _ _ => rfl⟩
  · rw [enrol_eq, State.setIntake_intake]
  · intro h
    have hcount : recordedCount p.count = 1 := by rw [h, recordedCount_zero]
    refine ⟨hcount, ?_⟩
    rw [recordOf_clamped, hcount, h]
    rfl
  · intro h
    refine ⟨recordedCount_above h, ?_⟩
    rw [recordOf_clamped, recordedCount_above h]
    exact bne_iff_ne.mpr h.ne
  · intro h1 h9
    refine ⟨recordedCount_within h1 h9, ?_⟩
    rw [recordOf_clamped, recordedCount_within h1 h9]
    exact bne_self_eq_false p.count

/-- Settles O15: well formed with room, well formed at 14, and not well formed, each by its equation. -/
theorem readerPresentationTaken : Obligations.ReaderPresentationTaken := by
  intro bytes payload rest s hpow hw
  have hexec : exec (.presentation bytes) s
      = .next (settle (takePresentation payload (setRx .reader rest s))) :=
    onReaderFrame_of_wholeFrame takePresentation hpow hw
  refine ⟨fun hp => ?_, fun p hp => ⟨fun hroom => ?_, fun hfull => ?_⟩⟩
  · rw [hexec, takePresentation_malformed (setRx .reader rest s) hp, discardArrival_eq]
    rfl
  · rw [hexec, takePresentation_room (setRx .reader rest s) hp hroom, enrol_eq]
    rfl
  · rw [hexec, takePresentation_full (setRx .reader rest s) hp hfull, discardArrival_eq]
    rfl

/-- Settles O16: admitted, BUSY and BAD_ARG, each by its equation of `takeKeyed`. -/
theorem keyedPresentationAnswered : Obligations.KeyedPresentationAnswered := by
  intro payload s hframe
  have hexec : exec .present s = .next (settle (takeKeyed payload (takeFrame s))) :=
    dispatch_of_holdsFrame takeKeyed hframe
  refine ⟨fun hp => ?_, fun p hp => ⟨fun hbusy => ?_, fun hroom hsafe hshut => ?_⟩⟩
  · rw [hexec, takeKeyed_malformed (takeFrame s) hp]
    rfl
  · rw [hexec, takeKeyed_busy (takeFrame s) hp hbusy]
    rfl
  · rw [hexec, takeKeyed_room (takeFrame s) hp hroom hsafe hshut, respond_takeFrame, enrol_eq]
    rfl

/-- Settles O17: the answered state is still within its bounds, so emptying its queue is `emptyQueue_eq`. -/
theorem flushEmptiesTheQueue : Obligations.FlushEmptiesTheQueue := by
  intro s hframe hb
  have hok : s.Ok := (bounded_iff s).mp hb
  have hexec : exec .intakeFlush s = .next (settle (flushQueue [] (takeFrame s))) :=
    dispatch_of_holdsFrame flushQueue hframe
  obtain ⟨-, -, hlen, -, -⟩ := hframe
  have hanswered := hok.takeFrame.respond hlen clsIntakeFlush (Reply.with .ok (be1 (takeFrame s).intake.queue.length))
  rw [hexec, flushQueue_nil, emptyQueue_eq .flush hanswered]
  rfl

end Sys2Proof.Machine
end

section
/-! SUPPORT. CONFIG: the settings after a frame, their ranges, and when every value was applied as carried. -/

namespace Sys2Proof.Machine

theorem clampTo_zero (hi n : Nat) : clampTo 0 hi n = min n hi := Nat.zero_max _

theorem clampTo_bounds {lo hi : Nat} (h : lo ≤ hi) (n : Nat) : lo ≤ clampTo lo hi n ∧ clampTo lo hi n ≤ hi := by
  unfold clampTo
  omega

theorem asCarried_iff (carried : Option Nat) (applied : Nat) :
    asCarried carried applied = true ↔ ∀ x, carried = some x → x = applied := by
  cases carried <;> simp [asCarried]

/-- R160: what OK says of a frame's values. -/
theorem configExact_iff (c : Settings) (v : ConfigValues) :
    configExact c v = true ↔
      (∀ x, v.window = some x → x = (applyConfig c v).window) ∧ (∀ x, v.burst = some x → x = (applyConfig c v).burst)
        ∧ (∀ x, v.volume = some x → x = (applyConfig c v).volume) ∧ (∀ x, v.hold = some x → x = (applyConfig c v).hold)
        ∧ (∀ x, v.resume = some x → x = (applyConfig c v).resume)
        ∧ (v.resume = none → (applyConfig c v).resume = c.resume) := by
  have hmoved : (v.resume.isSome || (applyConfig c v).resume == c.resume) = true
      ↔ (v.resume = none → (applyConfig c v).resume = c.resume) := by
    cases v.resume <;> simp
  simp only [configExact, Bool.and_eq_true, asCarried_iff, hmoved, and_assoc]

/-- A carried value moved into its range, or the setting left, is in the range. -/
theorem clampTo_getD_bounds {lo hi c : Nat} (hle : lo ≤ hi) (hc : lo ≤ c ∧ c ≤ hi) (carried : Option Nat) :
    lo ≤ (carried.map (clampTo lo hi)).getD c ∧ (carried.map (clampTo lo hi)).getD c ≤ hi := by
  cases carried with
  | none => exact hc
  | some n => exact clampTo_bounds hle n

/-- R160: the resume watermark stays from 1 to below the hold watermark that stands after the frame. -/
theorem newResume_bounds {c : Settings} (hc : 1 ≤ c.resume) (v : ConfigValues) (hh : 4 ≤ newHold c v) :
    1 ≤ newResume c v ∧ newResume c v < newHold c v := by
  unfold newResume
  cases v.resume with
  | none => dsimp only; omega
  | some r =>
    obtain ⟨hlo, hhi⟩ := clampTo_bounds (lo := 1) (hi := newHold c v - 1) (by omega) r
    dsimp only
    omega

/-- R160: a frame keeps the settings in their ranges. -/
theorem applyConfig_inRange {c : Settings} (h : c.inRange = true) (v : ConfigValues) :
    (applyConfig c v).inRange = true := by
  simp only [Settings.inRange, Bool.and_eq_true, decide_eq_true_eq, and_assoc] at h ⊢
  obtain ⟨hwin, hburst1, hburst16, hvol, hhold4, hhold13, hres1, -⟩ := h
  obtain ⟨-, hwin'⟩ := clampTo_getD_bounds (Nat.zero_le 240) ⟨Nat.zero_le _, hwin⟩ v.window
  obtain ⟨hburst1', hburst16'⟩ := clampTo_getD_bounds (by omega) ⟨hburst1, hburst16⟩ v.burst
  obtain ⟨-, hvol'⟩ := clampTo_getD_bounds (Nat.zero_le 3) ⟨Nat.zero_le _, hvol⟩ v.volume
  obtain ⟨hhold4', hhold13'⟩ := clampTo_getD_bounds (by omega) ⟨hhold4, hhold13⟩ v.hold
  obtain ⟨hres1', hres'⟩ := newResume_bounds hres1 v hhold4'
  exact ⟨hwin', hburst1', hburst16', hvol', hhold4', hhold13', hres1', hres'⟩

/-- R160: settings given one by one, each by its range, are `applyConfig`'s. -/
theorem eq_applyConfig_of_ranges {c n : Settings} {v : ConfigValues}
    (hwindow : n.window = (match v.window with | none => c.window | some x => min x 240))
    (hpolicy : n.policy = v.policy.getD c.policy)
    (hburst : n.burst = (match v.burst with | none => c.burst | some x => max 1 (min x 16)))
    (hvolume : n.volume = (match v.volume with | none => c.volume | some x => min x 3))
    (hhold : n.hold = (match v.hold with | none => c.hold | some x => max 4 (min x 13)))
    (hresume : n.resume = (match v.resume with
      | none => min c.resume (n.hold - 1)
      | some x => max 1 (min x (n.hold - 1)))) :
    n = applyConfig c v := by
  have hw : n.window = (applyConfig c v).window := by
    rw [hwindow]; cases hv : v.window <;> simp [applyConfig, hv, clampTo_zero]
  have hb : n.burst = (applyConfig c v).burst := by
    rw [hburst]; cases hv : v.burst <;> simp [applyConfig, hv, clampTo]
  have hvol : n.volume = (applyConfig c v).volume := by
    rw [hvolume]; cases hv : v.volume <;> simp [applyConfig, hv, clampTo_zero]
  have hh : n.hold = newHold c v := by
    rw [hhold]; cases hv : v.hold <;> simp [newHold, hv, clampTo]
  have hr : n.resume = newResume c v := by
    rw [hresume, hh]; cases hv : v.resume <;> simp [newResume, hv, clampTo]
  calc n = ⟨n.window, n.policy, n.burst, n.volume, n.hold, n.resume⟩ := rfl
    _ = applyConfig c v := by rw [hw, hpolicy, hb, hvol, hh, hr]; rfl

theorem takeConfig_some {payload : List Byte} {v : ConfigValues} (h : readConfig payload = some v) (s : State) :
    takeConfig payload s = flowStep (respond clsConfig
      (Reply.with (if configExact s.settings v then .ok else .okClamped) (settingsBytes (applyConfig s.settings v)))
      (s.setSettings (applyConfig s.settings v))) := by
  simp [takeConfig, h]

/-- Settles O54: the settings named are `applyConfig`'s, and the status is OK exactly when `configExact` says so. -/
theorem configSetsTheSettings : Obligations.ConfigSetsTheSettings := by
  intro payload v n s hframe hread hwindow hpolicy hburst hvolume hhold hresume
  obtain rfl : n = applyConfig s.settings v :=
    eq_applyConfig_of_ranges hwindow hpolicy hburst hvolume hhold hresume
  have hexec : exec .config s = .next (settle (takeConfig payload (takeFrame s))) :=
    dispatch_of_holdsFrame takeConfig hframe
  refine ⟨if configExact s.settings v then .ok else .okClamped, ?_, ?_, ?_, fun h => applyConfig_inRange h v⟩
  · rw [hexec, takeConfig_some hread]
    rfl
  · exact ite_eq_or_eq _ _ _
  · rw [← configExact_iff]
    simp

end Sys2Proof.Machine
end

section
/-! SUPPORT. The service clock: what a received time makes of the state, and what it leaves unchanged. -/

namespace Sys2Proof.Machine

/-! ## The order of times -/

theorem Time.before_iff (a b : Time) :
    a.before b = true ↔ a.day < b.day ∨ (a.day = b.day ∧ a.minute < b.minute) := by
  simp [Time.before]

theorem Time.atOrBefore_eq_false_iff (a b : Time) : a.atOrBefore b = false ↔ b.before a = true := by
  simp [Time.atOrBefore]

theorem slightlyEarly_iff (t c : Time) :
    slightlyEarly t c = true ↔ t.day = c.day ∧ t.minute < c.minute ∧ c.minute ≤ t.minute + 2 := by
  simp [slightlyEarly, and_assoc]

/-! ## A new clock value and the scheduled commit -/

/-- R71: the conditions under which a new clock value begins the scheduled commit. -/
theorem scheduleReached_iff (s : State) :
    scheduleReached s = true ↔ s.tables.engineNow = .scheduled ∧ s.intake.causes.restarting = false
      ∧ (s.tables.schedule.any fun u => u.atOrBefore s.position.clock) = true := by
  cases hs : s.tables.schedule <;> simp [scheduleReached, State.restarting, hs, and_assoc]

/-- R19, R71: a new clock value changes the Table Store only, as `State.clockSet` says. -/
theorem clockChanged_eq (s : State) : clockChanged s = s.setTables (s.clockSet s.position.clock).tables := by
  by_cases h : scheduleReached s = true
  · simp only [clockChanged, State.clockSet, if_pos h, if_pos ((scheduleReached_iff s).mp h)]
    rfl
  · simp only [clockChanged, State.clockSet, if_neg h, if_neg (mt (scheduleReached_iff s).mpr h)]
    rfl

/-- R71: a new clock value changes the schedule and the commit due of the Table Store, and nothing else of it. -/
theorem clockSet_tables_frame (t : Time) (s : State) :
    ∃ sch due, (s.clockSet t).tables = { s.tables with schedule := sch, commitDue := due } := by
  by_cases h : s.tables.engineNow = .scheduled ∧ s.intake.causes.restarting = false
      ∧ (s.tables.schedule.any fun u => u.atOrBefore t) = true
  · exact ⟨none, some .scheduled, if_pos h⟩
  · exact ⟨s.tables.schedule, s.tables.commitDue, if_neg h⟩

/-! ## The three cases of R21 -/

/-- R21, first case: the clock is not ahead of the time. -/
theorem applyTime_forward {t : Time} {s : State} (h : s.position.clock.atOrBefore t = true) :
    applyTime t s = s.clockSet t := by
  rw [applyTime, if_pos h, clockChanged_eq]
  rfl

/-- R21, second case: the clock stands, and the minutes it is ahead become its debt. -/
theorem applyTime_slightlyEarly {t : Time} {s : State} (h : slightlyEarly t s.position.clock = true) :
    applyTime t s
      = s.setPosition { s.position with valid := true, debt := s.position.clock.minute - t.minute } := by
  obtain ⟨hday, hlt, -⟩ := (slightlyEarly_iff t s.position.clock).mp h
  have hnot : s.position.clock.atOrBefore t = false :=
    (Time.atOrBefore_eq_false_iff _ _).mpr ((Time.before_iff _ _).mpr (.inr ⟨hday, hlt⟩))
  simp [applyTime, hnot, h]

/-- R21, R30, third case: the clock goes back, the history is cleared, and CLOCK_CORRECTED is placed. -/
theorem applyTime_back {t : Time} {s : State} (hback : t.before s.position.clock = true)
    (hfar : ¬slightlyEarly t s.position.clock = true) :
    applyTime t s
      = ((s.clockSet t).noticed (.clockCorrected s.position.clock t s.position.history.length)).setPosition
          { (s.clockSet t).position with history := [], wrapped := false } := by
  have hnot : ¬s.position.clock.atOrBefore t = true := by
    simp [(Time.atOrBefore_eq_false_iff s.position.clock t).mpr hback]
  rw [applyTime, if_neg hnot, if_neg hfar, clockChanged_eq]
  rfl

/-- R21: every time falls under one of its three cases. -/
theorem time_cases (t c : Time) :
    c.atOrBefore t = true ∨ slightlyEarly t c = true ∨ (t.before c = true ∧ ¬slightlyEarly t c = true) := by
  cases hforward : c.atOrBefore t
  · by_cases hearly : slightlyEarly t c = true
    · exact .inr (.inl hearly)
    · exact .inr (.inr ⟨(Time.atOrBefore_eq_false_iff c t).mp hforward, hearly⟩)
  · exact .inl rfl

/-! ## What a received time leaves unchanged -/

/-- R156: a notice touches the notice queue and the dropped count only. -/
theorem noticed_frame (b : NoticeBody) (s : State) :
    ∃ notices dropped, s.noticed b = s.setPort { s.port with notices := notices, dropped := dropped } :=
  ⟨_, _, congrArg s.setPort (addNotice_frame s.port _)⟩

/-- Placing a notice and taking a frame from the input place are apart. -/
theorem noticed_takeFrame (b : NoticeBody) (s : State) : (takeFrame s).noticed b = takeFrame (s.noticed b) := by
  by_cases h : s.port.notices.length < noticeLimit <;>
    simp [State.noticed, takeFrame, State.setPort, TerminalPort.addNotice, h]

/-- R21: a received time touches the clock with its validity, debt and history, the schedule and the commit due, and the
notices; nothing else. -/
theorem applyTime_frame (t : Time) (s : State) :
    ∃ clock valid debt history wrapped sch due notices dropped, applyTime t s =
      { s with
        position := { s.position with
          clock := clock, valid := valid, debt := debt, history := history, wrapped := wrapped }
        tables := { s.tables with schedule := sch, commitDue := due }
        port := { s.port with notices := notices, dropped := dropped } } := by
  obtain ⟨sch, due, htables⟩ := clockSet_tables_frame t s
  have hset : s.clockSet t = { s with
      position := { s.position with clock := t, valid := true, debt := 0 }
      tables := { s.tables with schedule := sch, commitDue := due } } := by
    rw [← htables]
    rfl
  rcases time_cases t s.position.clock with hforward | hearly | ⟨hback, hfar⟩
  · exact ⟨_, _, _, _, _, _, _, _, _, by rw [applyTime_forward hforward, hset]⟩
  · exact ⟨_, _, _, _, _, _, _, _, _, applyTime_slightlyEarly hearly⟩
  · obtain ⟨notices, dropped, hnotice⟩ := noticed_frame
      (.clockCorrected s.position.clock t s.position.history.length) (s.clockSet t)
    refine ⟨t, true, 0, [], false, sch, due, notices, dropped, ?_⟩
    rw [applyTime_back hback hfar, hnotice, hset]
    rfl

section
variable (t : Time) (s : State)

@[simp] theorem applyTime_pos : (applyTime t s).position.pos = s.position.pos := by
  obtain ⟨_, _, _, _, _, _, _, _, _, h⟩ := applyTime_frame t s
  rw [h]

@[simp] theorem applyTime_route : (applyTime t s).position.route = s.position.route := by
  obtain ⟨_, _, _, _, _, _, _, _, _, h⟩ := applyTime_frame t s
  rw [h]

@[simp] theorem applyTime_length : (applyTime t s).position.length = s.position.length := by
  obtain ⟨_, _, _, _, _, _, _, _, _, h⟩ := applyTime_frame t s
  rw [h]

/-- R71, R72: a commit that begins leaves the ACTIVE bank as it is until its mark is programmed. -/
@[simp] theorem applyTime_active : (applyTime t s).tables.active = s.tables.active := by
  obtain ⟨_, _, _, _, _, _, _, _, _, h⟩ := applyTime_frame t s
  rw [h]
  rfl

/-- Applying a time and taking a frame from the input place are apart. -/
theorem applyTime_takeFrame : applyTime t (takeFrame s) = takeFrame (applyTime t s) := by
  rcases time_cases t s.position.clock with hforward | hearly | ⟨hback, hfar⟩
  · rw [applyTime_forward (s := s) hforward, applyTime_forward (s := takeFrame s) hforward]
    rfl
  · rw [applyTime_slightlyEarly (s := s) hearly, applyTime_slightlyEarly (s := takeFrame s) hearly]
    rfl
  · rw [applyTime_back (s := s) hback hfar, applyTime_back (s := takeFrame s) hback hfar]
    have hset : (takeFrame s).clockSet t = takeFrame (s.clockSet t) := rfl
    rw [hset, noticed_takeFrame]
    rfl

end

/-! ## The statement on a received time -/

/-- R22: a frame of the Position Unit is dispatched while no entry stands in the outgoing place. -/
theorem dispatch_position_of_holdsFrame {cls : Nat} {payload : List Byte} {s : State}
    (f : List Byte → State → State) (h : s.holdsFrame cls payload) (hout : s.position.outgoing = none) :
    dispatch cls (positionReady s) f s = .next (settle (f payload (takeFrame s))) :=
  dispatchWhen_of_holdsFrame f h (by simp [positionReady, hout]) rfl

/-- R22, R23: a well-formed TIME is applied and answered OK. -/
theorem takeTime_some {payload : List Byte} {t : Time} (s : State) (h : readTime payload = some t) :
    takeTime payload s = answerTime clsTime .ok (applyTime t s) := by
  simp [takeTime, h]

/-- TIME's next state: what the time touches, the input place empty and the response at the tail. -/
theorem answered_applyTime (t : Time) (cls : Nat) (r : Reply) (s : State) :
    (applyTime t s).answered cls r =
      { s with
        position := (applyTime t s).position
        tables := (applyTime t s).tables
        port := { (applyTime t s).port with
          input := none, responses := s.port.responses ++ [{ cls := cls, reply := some r }] } } := by
  obtain ⟨_, _, _, _, _, _, _, _, _, h⟩ := applyTime_frame t s
  rw [h]
  rfl

/-- Settles O20: the three equations of `applyTime`, and TIME answered in the state they give. -/
theorem timeFrameApplied : Obligations.TimeFrameApplied := by
  rintro t _ s rfl
  refine ⟨⟨applyTime_forward, fun hday hlt hwithin => ?_, fun hback hfar => ?_⟩, fun payload hframe hout hread => ?_⟩
  · exact applyTime_slightlyEarly ((slightlyEarly_iff _ _).mpr ⟨hday, hlt, hwithin⟩)
  · refine applyTime_back hback fun hearly => hfar ?_
    obtain ⟨hday, -, hwithin⟩ := (slightlyEarly_iff _ _).mp hearly
    exact ⟨hday, hwithin⟩
  · have hexec : exec .time s = .next (settle (takeTime payload (takeFrame s))) :=
      dispatch_position_of_holdsFrame takeTime hframe hout
    rw [hexec, takeTime_some (takeFrame s) hread, applyTime_takeFrame, ← answered_applyTime]
    rfl

end Sys2Proof.Machine
end

section
/-! SUPPORT. Position reports: the stop a report names, the states it fits, and the train moved to it. -/

namespace Sys2Proof.Machine

/-- R25: a report passes when it names a stop of the ACTIVE bank. -/
theorem reportNamesStop_iff (s : State) (r : Report) :
    reportNamesStop s.tables.active r = true ↔ ∃ b, s.hasStop b r := by
  cases h : s.tables.active <;> simp [reportNamesStop, State.hasStop, h, and_assoc]

/-- R27: the states from which an ARRIVE is accepted, as its table lists them. -/
theorem arriveFits_iff (p : PositionUnit) (r : Report) :
    arriveFits p r = true ↔ p.pos = .unknown ∨ (p.route = some r.route
      ∧ ((∃ j, p.pos = .atStop j ∧ j < r.index) ∨ ∃ j, p.pos = .between j ∧ j + 1 ≤ r.index)) := by
  cases h : p.pos <;> simp [arriveFits, h]

/-- R24: a move sets the state; the current route is the report's afterwards, and its length is set when the state
leaves UNKNOWN. -/
theorem moveTo_eq {s : State} {b : Bank} {route : Nat} (pos : PosState) (hbank : s.tables.active = some b)
    (hroute : s.position.pos = .unknown ∨ s.position.route = some route) :
    moveTo pos route s = s.setPosition
      { s.position with
        pos := pos
        route := some route
        length := if s.position.pos = .unknown then some (routeLength b route) else s.position.length } := by
  by_cases h : s.position.pos = .unknown
  · simp [moveTo, h, activeLength, hbank]
  · simp [moveTo, h, ← hroute.resolve_left h]

/-- R24, R28: SWITCH sets the state, the current route and its length, whatever the state was. -/
theorem switched_eq {s : State} {b : Bank} (r : Report) (hbank : s.tables.active = some b) :
    switched r s = s.setPosition
      { s.position with
        pos := .atStop r.index, route := some r.route, length := some (routeLength b r.route) } := by
  simp [switched, activeLength, hbank]

/-- R22, R24, R27: the whole effect of an ARRIVE that names a stop and fits the state, its time applied. -/
theorem checkArrive_accepted {s : State} {b : Bank} {r : Report} (hstop : s.hasStop b r)
    (hfits : s.position.pos = .unknown ∨ (s.position.route = some r.route
      ∧ ((∃ j, s.position.pos = .atStop j ∧ j < r.index) ∨ ∃ j, s.position.pos = .between j ∧ j + 1 ≤ r.index))) :
    checkArrive r (takeFrame s) =
      { s.answered clsArrive
          (Reply.with .ok (posBytes (.atStop r.index) ++ be1 r.route ++ timeBytes s.position.clock)) with
        position :=
          { s.position with
            pos := .atStop r.index
            route := some r.route
            length := if s.position.pos = .unknown then some (routeLength b r.route) else s.position.length } } := by
  have hnames : reportNamesStop (takeFrame s).tables.active r = true := (reportNamesStop_iff s r).mpr ⟨b, hstop⟩
  have harrive : arriveFits (takeFrame s).position r = true := (arriveFits_iff s.position r).mpr hfits
  have hmove := moveTo_eq (s := takeFrame s) (.atStop r.index) hstop.1 (hfits.imp_right And.left)
  simp only [checkArrive, hnames, harrive, hmove, Bool.not_true, Bool.false_eq_true, if_false, if_true]
  rfl

/-- R22, R24, R28: the whole effect of a SWITCH that names a stop, its time applied. -/
theorem checkSwitch_accepted {s : State} {b : Bank} {r : Report} (hstop : s.hasStop b r) :
    checkSwitch r (takeFrame s) =
      { s.answered clsSwitch
          (Reply.with .ok (posBytes (.atStop r.index) ++ be1 r.route ++ timeBytes s.position.clock)) with
        position :=
          { s.position with
            pos := .atStop r.index, route := some r.route, length := some (routeLength b r.route) } } := by
  have hnames : reportNamesStop (takeFrame s).tables.active r = true := (reportNamesStop_iff s r).mpr ⟨b, hstop⟩
  have hmove := switched_eq (s := takeFrame s) r hstop.1
  simp only [checkSwitch, hnames, hmove, Bool.not_true, Bool.false_eq_true, if_false]
  rfl

theorem takeArrive_some {payload : List Byte} {r : Report} (s : State) (h : readReport payload = some r) :
    takeArrive payload s = checkArrive r (applyTime r.time s) := by
  simp [takeArrive, h]

theorem takeSwitch_some {payload : List Byte} {r : Report} (s : State) (h : readReport payload = some r) :
    takeSwitch payload s = checkSwitch r (applyTime r.time s) := by
  simp [takeSwitch, h]

/-- A received time leaves the stops of the ACTIVE bank as they are. -/
theorem hasStop_applyTime {s : State} {b : Bank} {r : Report} (t : Time) (h : s.hasStop b r) :
    (applyTime t s).hasStop b r := by
  obtain ⟨hactive, hnamed⟩ := h
  exact ⟨(applyTime_active t s).trans hactive, hnamed⟩

/-- Settles O23: the time leaves the position and the ACTIVE bank as they are, so the report fits after it as before,
and is accepted. -/
theorem arriveAndSwitchStandAtTheStop : Obligations.ArriveAndSwitchStandAtTheStop := by
  rintro payload _ r b s _ hout hread hstop rfl rfl
  have hstop' : (applyTime r.time s).hasStop b r := hasStop_applyTime r.time hstop
  refine ⟨fun hframe hfits => ?_, fun hframe => ?_⟩
  · have hexec : exec .arrive s = .next (settle (takeArrive payload (takeFrame s))) :=
      dispatch_position_of_holdsFrame takeArrive hframe hout
    rw [hexec, takeArrive_some _ hread, applyTime_takeFrame, checkArrive_accepted hstop' (by simpa using hfits),
      applyTime_pos, applyTime_length]
    rfl
  · have hexec : exec .switch s = .next (settle (takeSwitch payload (takeFrame s))) :=
      dispatch_position_of_holdsFrame takeSwitch hframe hout
    rw [hexec, takeSwitch_some _ hread, applyTime_takeFrame, checkSwitch_accepted hstop']
    rfl

end Sys2Proof.Machine
end

section
/-! SUPPORT. The early stages of an evaluation: what stages 1 to 6 decide, and the verdict it gives. -/

namespace Sys2Proof.Machine

/-! ## What stages 1 to 6 decide, in their order -/

/-- R81: no bank is pinned. -/
theorem stages1to6_noTables (p : Presentation) : stages1to6 none p = .error (.refer, .noTables) := rfl

section
variable {bank : Bank} {p : Presentation}

theorem stages1to6_unknownIssuer (hissuer : issuerDeclared bank p.key.auth = false) :
    stages1to6 (some bank) p = .error (.refer, .unknownIssuer) := by
  simp [stages1to6, hissuer]

theorem stages1to6_revoked (hissuer : issuerDeclared bank p.key.auth = true) (hrevoked : revoked bank p.key = true) :
    stages1to6 (some bank) p = .error (.reject, .revoked) := by
  simp [stages1to6, hissuer, hrevoked]

theorem stages1to6_unverified (hissuer : issuerDeclared bank p.key.auth = true)
    (hrevoked : revoked bank p.key = false) (hattested : p.attested = false) :
    stages1to6 (some bank) p = .error (.refer, .unverified) := by
  simp [stages1to6, hissuer, hrevoked, hattested]

theorem stages1to6_unknownProduct (hissuer : issuerDeclared bank p.key.auth = true)
    (hrevoked : revoked bank p.key = false) (hattested : p.attested = true)
    (hproduct : productLookup bank p.key.auth p.product = none) :
    stages1to6 (some bank) p = .error (.refer, .unknownProduct) := by
  simp [stages1to6, hissuer, hrevoked, hattested, hproduct]

theorem stages1to6_passengerCount {prod : ProductRec} (hissuer : issuerDeclared bank p.key.auth = true)
    (hrevoked : revoked bank p.key = false) (hattested : p.attested = true)
    (hproduct : productLookup bank p.key.auth p.product = some prod) (hcount : prod.maxPassengers < p.count) :
    stages1to6 (some bank) p = .error (.refer, .passengerCount) := by
  simp [stages1to6, hissuer, hrevoked, hattested, hproduct, hcount]

end

/-! ## The verdict of a presentation that an early stage decides -/

/-- R92: with no grace there is nothing to merge. -/
@[simp] theorem graceMerge_plain (cls : VClass) (reason : Reason) :
    graceMerge (Ruling.plain cls reason) = Ruling.plain cls reason := rfl

/-- R93: what is decided before stage 7 is not remembered. -/
@[simp] theorem stage14_plain (p : Presentation) (s : Snapshot) (m : MemoryView) (cls : VClass) (reason : Reason) :
    stage14 p s m (Ruling.plain cls reason) = (m.slots, false) := rfl

theorem stages1to12_of_decided {b : Option Bank} {p : Presentation} {cls : VClass} {reason : Reason}
    (h : stages1to6 b p = .error (cls, reason)) (s : Snapshot) (m : MemoryView) :
    stages1to12 b p s m = Ruling.plain cls reason := by
  simp only [stages1to12, h]

/-- R80, R93: the class and reason that stages 1 to 6 decide are the verdict's, and the memory stays as it stood. -/
theorem workChecks_of_decided {b : Option Bank} {c : EvalContext} {m : MemoryView} {v : Verdict}
    {slots : List (Nat × Sighting)} {cls : VClass} {reason : Reason} (hwork : (v, slots) = workChecks b c m)
    (h : stages1to6 b c.pres = .error (cls, reason)) : v.cls = cls ∧ v.reason = reason ∧ slots = m.slots := by
  have hplain : workChecks b c m = (verdictRecord b c (Ruling.plain cls reason) false, m.slots) := by
    simp only [workChecks, stages1to12_of_decided h, graceMerge_plain, stage14_plain]
  obtain ⟨rfl, rfl⟩ := Prod.mk.inj (hwork.trans hplain)
  exact ⟨rfl, rfl, rfl⟩

/-- Settles O39: each row is the verdict of what stages 1 to 6 decide there. -/
theorem earlyStagesDecide : Obligations.EarlyStagesDecide := by
  intro c m v slots b hwork
  refine ⟨?_, ?_⟩
  · rintro rfl
    exact workChecks_of_decided hwork (stages1to6_noTables c.pres)
  rintro bank rfl
  refine ⟨fun hissuer => ?_, fun hissuer => ⟨fun hrevoked => ?_, fun hrevoked => ⟨fun hattested => ?_,
    fun hattested => ⟨fun hproduct => ?_, fun prod hproduct hcount => ?_⟩⟩⟩⟩
  · exact workChecks_of_decided hwork (stages1to6_unknownIssuer hissuer)
  · exact workChecks_of_decided hwork (stages1to6_revoked hissuer hrevoked)
  · exact workChecks_of_decided hwork (stages1to6_unverified hissuer hrevoked hattested)
  · exact workChecks_of_decided hwork (stages1to6_unknownProduct hissuer hrevoked hattested hproduct)
  · exact workChecks_of_decided hwork (stages1to6_passengerCount hissuer hrevoked hattested hproduct hcount)

end Sys2Proof.Machine
end

section
/-! SUPPORT. The fare arithmetic: the runs of a walk, and the amount of a run. -/

namespace Sys2Proof.Machine

/-! ## The runs of a walk (R105) -/

/-- Two stops belong to one authority. -/
def sameAuth (x y : StopRec) : Bool := x.auth == y.auth

/-- A run has its group's authority and goes from its first stop to its last. -/
def Run.spans (r : Run) (group : List StopRec) : Prop :=
  (∃ e, group.head? = some e ∧ r.auth = e.auth ∧ r.firstZone = e.zone) ∧ ∃ f, group.getLast? = some f ∧ r.lastZone = f.zone

/-- The groups are of one authority each. -/
def OneAuthEach (groups : List (List StopRec)) : Prop :=
  ∀ g ∈ groups, g ≠ [] ∧ ∀ x ∈ g, ∀ y ∈ g, x.auth = y.auth

/-- Each group is of another authority than the group before it. -/
def AuthChanges (groups : List (List StopRec)) : Prop :=
  groups.IsChain fun g h => ∀ x ∈ g, ∀ y ∈ h, x.auth ≠ y.auth

theorem cutRuns_cons_same {s : StopRec} {rest : List StopRec} {r : Run} {rs : List Run} (hrest : cutRuns rest = r :: rs)
    (hauth : r.auth = s.auth) : cutRuns (s :: rest) = { r with firstZone := s.zone } :: rs := by
  simp [cutRuns, hrest, hauth]

/-- The first run of a walk begins at its first stop. -/
theorem cutRuns_head?_auth (stops : List StopRec) :
    (cutRuns stops).head?.map Run.auth = stops.head?.map StopRec.auth := by
  cases stops with
  | nil => rfl
  | cons s rest =>
    simp only [cutRuns]
    split
    · rfl
    · split
      next hauth => simpa using hauth
      next => rfl

/-- A stop before a walk that begins in another authority, or before no stop, is a run by itself. -/
theorem cutRuns_cons_other {s : StopRec} {rest : List StopRec} (hother : ∀ x ∈ rest.head?, s.auth ≠ x.auth) :
    cutRuns (s :: rest) = { auth := s.auth, firstZone := s.zone, lastZone := s.zone } :: cutRuns rest := by
  have hhead := cutRuns_head?_auth rest
  cases hrest : cutRuns rest with
  | nil => simp [cutRuns, hrest]
  | cons r rs =>
    have hauth : r.auth ≠ s.auth := by
      rw [hrest, List.head?_cons, Option.map_some] at hhead
      obtain ⟨x, hx, hxr⟩ := Option.map_eq_some_iff.mp hhead.symm
      exact fun h => hother x hx (h.symm.trans hxr.symm)
    simp [cutRuns, hrest, hauth]

/-- The stops of one authority before a walk that begins in another, or before no stop, are one run. -/
theorem cutRuns_append_group {s : StopRec} {g rest : List StopRec} (hsame : ∀ x ∈ g, x.auth = s.auth)
    (hother : ∀ x ∈ rest.head?, s.auth ≠ x.auth) :
    ∃ r : Run, cutRuns (s :: g ++ rest) = r :: cutRuns rest ∧ r.spans (s :: g) := by
  induction g generalizing s with
  | nil => exact ⟨_, cutRuns_cons_other hother, ⟨s, rfl, rfl, rfl⟩, s, rfl, rfl⟩
  | cons e g ih =>
    have hes : e.auth = s.auth := hsame e List.mem_cons_self
    obtain ⟨r, hcut, ⟨e', hhead, hauth, _⟩, f, hlast, hzone⟩ :=
      ih (s := e) (fun x hx => (hsame x (List.mem_cons_of_mem e hx)).trans hes.symm) (hes ▸ hother)
    obtain rfl : e = e' := Option.some.inj hhead
    have hrs : r.auth = s.auth := hauth.trans hes
    exact ⟨_, cutRuns_cons_same hcut hrs, ⟨s, rfl, hrs, rfl⟩, f, List.getLast?_cons_cons.trans hlast, hzone⟩

/-- One run for each group of a walk that changes its authority from group to group. -/
theorem cutRuns_flatten {groups : List (List StopRec)} (hone : OneAuthEach groups) (hchange : AuthChanges groups) :
    List.Forall₂ Run.spans (cutRuns groups.flatten) groups := by
  induction groups with
  | nil => exact .nil
  | cons g gs ih =>
    obtain ⟨⟨hne, hsame⟩, hgs⟩ := List.forall_mem_cons.mp hone
    obtain ⟨hnext, hchanges⟩ := List.isChain_cons.mp hchange
    obtain ⟨s, g, rfl⟩ := List.exists_cons_of_ne_nil hne
    have hother : ∀ x ∈ gs.flatten.head?, s.auth ≠ x.auth := by
      intro x hx
      cases gs with
      | nil => simp at hx
      | cons h hs =>
        obtain ⟨y, h, rfl⟩ := List.exists_cons_of_ne_nil (hgs h List.mem_cons_self).1
        obtain rfl : y = x := by simpa using hx
        exact hnext _ rfl s List.mem_cons_self y List.mem_cons_self
    obtain ⟨r, hcut, hspans⟩ :=
      cutRuns_append_group (fun x hx => hsame x (List.mem_cons_of_mem s hx) s List.mem_cons_self) hother
    rw [List.flatten_cons, hcut]
    exact .cons hspans (ih hgs hchanges)

theorem oneAuthEach_splitBy (stops : List StopRec) : OneAuthEach (stops.splitBy sameAuth) := by
  intro g hg
  refine ⟨List.ne_nil_of_mem_splitBy hg, fun x hx y hy => ?_⟩
  have hchain : (g.map StopRec.auth).IsChain Eq :=
    (List.isChain_map _).mpr ((List.isChain_of_mem_splitBy hg).imp fun _ _ h => beq_iff_eq.mp h)
  exact hchain.pairwise.forall_of_forall (fun _ _ => rfl) (List.mem_map_of_mem hx) (List.mem_map_of_mem hy)

/-- Where the split cuts, the last stop of a group and the first of the next differ, and so do all their stops. -/
theorem authChanges_splitBy (stops : List StopRec) : AuthChanges (stops.splitBy sameAuth) := by
  refine (List.isChain_getLast_head_splitBy sameAuth stops).imp_of_mem_imp ?_
  rintro g h hg hh ⟨hgne, hhne, hcut⟩ x hx y hy hxy
  have hlast : x.auth = (g.getLast hgne).auth := (oneAuthEach_splitBy stops g hg).2 _ hx _ (List.getLast_mem hgne)
  have hfirst : y.auth = (h.head hhne).auth := (oneAuthEach_splitBy stops h hh).2 _ hy _ (List.head_mem hhne)
  exact beq_eq_false_iff_ne.mp hcut (hlast.symm.trans (hxy.trans hfirst))

/-- There are no more groups than stops. -/
theorem OneAuthEach.length_le {groups : List (List StopRec)} (h : OneAuthEach groups) :
    groups.length ≤ groups.flatten.length := by
  rw [List.length_flatten, ← List.length_map (as := groups) List.length]
  refine List.length_le_sum_of_one_le _ fun n hn => ?_
  obtain ⟨g, hg, rfl⟩ := List.mem_map.mp hn
  exact List.length_pos_iff.mpr (h g hg).1

/-- Settles O41: the groups are the stops split where the authority changes. -/
theorem runsAreMaximal : Obligations.RunsAreMaximal := by
  intro stops
  have hone := oneAuthEach_splitBy stops
  have hchange := authChanges_splitBy stops
  have hflat : (stops.splitBy sameAuth).flatten = stops := List.flatten_splitBy sameAuth stops
  have hruns : List.Forall₂ Run.spans (cutRuns stops) (stops.splitBy sameAuth) := by
    simpa only [hflat] using cutRuns_flatten hone hchange
  have hlen : (cutRuns stops).length = (stops.splitBy sameAuth).length := hruns.length_eq
  refine ⟨stops.splitBy sameAuth, hflat, hone, fun i g h hg hh => ?_, hlen, ?_, fun hne => ?_, fun i g r hg hr => ?_⟩
  · obtain ⟨_, rfl⟩ := List.getElem?_eq_some_iff.mp hg
    obtain ⟨hi, rfl⟩ := List.getElem?_eq_some_iff.mp hh
    exact hchange.getElem i hi
  · rw [hlen, ← congrArg List.length hflat]
    exact hone.length_le
  · rw [hlen]
    exact List.length_pos_iff.mpr (List.splitBy_ne_nil.mpr hne)
  · obtain ⟨hig, rfl⟩ := List.getElem?_eq_some_iff.mp hg
    obtain ⟨hir, rfl⟩ := List.getElem?_eq_some_iff.mp hr
    exact hruns.get hir hig

/-! ## The amount of a run (R107) -/

/-- R107 step 2: the quotient rounded up is the least whole number that reaches the dividend. -/
theorem ceilDiv_bounds (n : Nat) {d : Nat} (hd : 1 ≤ d) : n ≤ ceilDiv n d * d ∧ ceilDiv n d * d < n + d := by
  have hdiv : ceilDiv n d * d + (n + (d - 1)) % d = n + (d - 1) := Nat.div_add_mod' (n + (d - 1)) d
  have hmod : (n + (d - 1)) % d < d := Nat.mod_lt _ hd
  omega

/-- R107 steps 4 and 5: the multiple that what is not below zero goes up to is the next one at or above it. -/
theorem ceilDiv_toNat_bounds (v : Int) {u : Nat} (hu : 1 ≤ u) :
    v ≤ ((ceilDiv v.toNat u * u : Nat) : Int)
      ∧ (0 < ceilDiv v.toNat u → (((ceilDiv v.toNat u - 1) * u : Nat) : Int) < v) := by
  obtain ⟨hle, hlt⟩ := ceilDiv_bounds v.toNat hu
  refine ⟨Int.toNat_le.mp hle, fun hpos => ?_⟩
  have hstep : (ceilDiv v.toNat u - 1) * u + u = ceilDiv v.toNat u * u := by
    rw [← Nat.succ_mul, Nat.succ_eq_add_one, Nat.sub_add_cancel hpos]
  omega

theorem runAmount_eq (t : RatesRec) (first : Bool) (cat : Category) (p n : Nat) :
    runAmount t first cat p n =
      let q := ceilDiv (runV3 (rateFor t first) n (factorFor t cat) p t.correction).toNat t.unit
      if t.cap < q * t.unit then t.cap else q * t.unit :=
  (Nat.min_comm _ _).trans (min_def_lt _ _)

/-- Settles O42: v2 and the number of units are the two quotients rounded up, and each has the bounds of one. -/
theorem runAmountSteps : Obligations.RunAmountSteps := by
  intro t first cat p n hunit
  obtain ⟨hle, hlt⟩ := ceilDiv_bounds (runV1 (rateFor t first) n * factorFor t cat) (d := 100) (by decide)
  obtain ⟨hup, hnext⟩ := ceilDiv_toNat_bounds (runV3 (rateFor t first) n (factorFor t cat) p t.correction) hunit
  rw [Nat.mul_comm _ 100] at hle hlt
  exact ⟨runV2 (rateFor t first) n (factorFor t cat), _, _, hle, hlt, rfl, hup, hnext, runAmount_eq t first cat p n⟩

end Sys2Proof.Machine
end

section
/-! SUPPORT. The slots of the Inspection Memory: how the two slots of a key lie, and what a key found there is. -/

namespace Sys2Proof.Machine

/-! ## The two slots of a key (R113) -/

theorem primarySlot_lt (k : Key) : primarySlot k < slotCount := Nat.mod_lt _ (by decide)

theorem primarySlot_ne_alternateSlot (k : Key) : primarySlot k ≠ alternateSlot k := by
  have hlt := primarySlot_lt k
  simp only [alternateSlot, slotCount] at hlt ⊢
  omega

/-- Twice 1024 is the number of slots, so the alternate of the alternate is the slot itself. -/
theorem alternateSlot_eq_of_primarySlot_eq {k j : Key} (h : primarySlot k = alternateSlot j) :
    alternateSlot k = primarySlot j := by
  have hlt := primarySlot_lt j
  simp only [alternateSlot, slotCount] at hlt h ⊢
  omega

/-- The multiples of 341 up to the sixth lie below 2048, so the serial, the same on both sides, cancels. -/
theorem auth_eq_of_primarySlot_eq {serial a b : Nat} (ha : a ≤ 6) (hb : b ≤ 6)
    (h : primarySlot { auth := a, serial := serial } = primarySlot { auth := b, serial := serial }) : a = b := by
  have hmod : 341 * a ≡ 341 * b [MOD 2048] := Nat.ModEq.add_left_cancel' (serial % 2048) h
  have hmul : 341 * a = 341 * b := hmod.eq_of_lt_of_lt (by omega) (by omega)
  omega

/-! ## What is found (R115) -/

theorem sightingAt_eq_some_iff {slots : List (Nat × Sighting)} {k : Key} {i j : Nat} {e : Sighting} :
    sightingAt slots k i = some (j, e) ↔ lookupAt slots i = some e ∧ e.key = k ∧ j = i := by
  unfold sightingAt
  cases lookupAt slots i with
  | none => simp
  | some x =>
    by_cases hkey : x.key = k
    · simp only [hkey, if_true, Option.some.injEq, Prod.mk.injEq]
      constructor
      · rintro ⟨rfl, rfl⟩
        exact ⟨rfl, hkey, rfl⟩
      · rintro ⟨rfl, -, rfl⟩
        exact ⟨rfl, rfl⟩
    · simp only [hkey, if_false, reduceCtorEq, Option.some.injEq, false_iff]
      rintro ⟨rfl, hk, -⟩
      exact hkey hk

/-- The entry found lies at the primary slot, or else at the alternate one. -/
theorem findSighting_cases {slots : List (Nat × Sighting)} {k : Key} {r : Nat × Sighting}
    (h : findSighting slots k = some r) :
    sightingAt slots k (primarySlot k) = some r ∨ sightingAt slots k (alternateSlot k) = some r := by
  unfold findSighting at h
  split at h
  next _ hprimary => exact .inl (hprimary.trans h)
  next => exact .inr h

theorem findSighting_sound {slots : List (Nat × Sighting)} {k : Key} {i : Nat} {e : Sighting}
    (h : findSighting slots k = some (i, e)) : (i = primarySlot k ∨ i = alternateSlot k) ∧ e.key = k := by
  rcases findSighting_cases h with hat | hat <;> obtain ⟨-, hkey, hslot⟩ := sightingAt_eq_some_iff.mp hat
  · exact ⟨.inl hslot, hkey⟩
  · exact ⟨.inr hslot, hkey⟩

/-- Settles O43: how the two slots lie, and that an entry found is of its key at one of them. -/
theorem slotsOfAKey : Obligations.SlotsOfAKey :=
  ⟨fun k => ⟨rfl, rfl, primarySlot_ne_alternateSlot k⟩,
    fun _ _ _ _ hfound => findSighting_sound hfound,
    fun _ _ _ _ ha _ hb hne heq => hne (auth_eq_of_primarySlot_eq ha hb heq),
    fun _ _ => ⟨fun heq => congrArg (fun slot => (slot + 1024) % slotCount) heq, alternateSlot_eq_of_primarySlot_eq⟩⟩

end Sys2Proof.Machine
end

section
/-! SUPPORT. Where the Annunciator's taken request goes: the pattern queue, case by case, and the placing built on it. -/

namespace Sys2Proof.Machine

/-! ## The pattern queue (R168) -/

theorem queuePattern_of_room {p : Pattern} {q : List Pattern} (h : q.length < 4) : queuePattern p q = q ++ [p] :=
  if_pos h

theorem queuePattern_of_full {p : Pattern} {q : List Pattern} (h : 4 ≤ q.length) :
    queuePattern p q = if q.any fun w => decide (w.urgency < p.urgency) then
      q.eraseP (fun w => decide (w.urgency < p.urgency)) ++ [p] else q :=
  if_neg (Nat.not_lt.mpr h)

/-- The first waiting entry of a lower urgency is the oldest one, since the queue is in the order of the taking. -/
theorem eraseP_oldest_of_lower_urgency {p w : Pattern} {before after : List Pattern} (hw : w.urgency < p.urgency)
    (hbefore : ∀ x ∈ before, p.urgency ≤ x.urgency) :
    (before ++ w :: after).eraseP (fun x => decide (x.urgency < p.urgency)) = before ++ after := by
  have hkept : ∀ x ∈ before, ¬decide (x.urgency < p.urgency) = true := fun x hx => by
    simpa using hbefore x hx
  rw [List.eraseP_append_right _ hkept, List.eraseP_cons_of_pos (by simpa using hw)]

theorem queuePattern_replaces {p w : Pattern} {before after : List Pattern} (hfull : 4 ≤ (before ++ w :: after).length)
    (hw : w.urgency < p.urgency) (hbefore : ∀ x ∈ before, p.urgency ≤ x.urgency) :
    queuePattern p (before ++ w :: after) = before ++ after ++ [p] := by
  have hlower : (before ++ w :: after).any (fun x => decide (x.urgency < p.urgency)) = true :=
    List.any_eq_true.mpr ⟨w, by simp, decide_eq_true hw⟩
  rw [queuePattern_of_full hfull, if_pos hlower, eraseP_oldest_of_lower_urgency hw hbefore]

theorem queuePattern_drops {p : Pattern} {q : List Pattern} (hfull : 4 ≤ q.length)
    (h : ∀ x ∈ q, p.urgency ≤ x.urgency) : queuePattern p q = q := by
  have hnone : ¬q.any (fun x => decide (x.urgency < p.urgency)) = true := by
    simpa using h
  rw [queuePattern_of_full hfull, if_neg hnone]

/-! ## The placing of a taken request (R168) -/

section
variable {a : Annunciator} {cur : Playing} {p : Pattern} (now : Nat)

theorem Annunciator.take_of_silent (h : a.playing = none) :
    a.take now p = { a with playing := some (startPattern now p) } := by
  simp only [Annunciator.take, h]

theorem Annunciator.take_preempts (h : a.playing = some cur) (hlt : cur.pattern.urgency < p.urgency) :
    a.take now p = { a with playing := some (startPattern now p) } := by
  simp only [Annunciator.take, h, if_pos hlt]

theorem Annunciator.take_queues (h : a.playing = some cur) (hle : p.urgency ≤ cur.pattern.urgency) :
    a.take now p = { a with queue := queuePattern p a.queue } := by
  simp only [Annunciator.take, h, if_neg (Nat.not_lt.mpr hle)]

end

/-- Settles O59: the urgencies by the table, and the five places a taken request can go, each by its equation. -/
theorem patternTakesItsPlace : Obligations.PatternTakesItsPlace := by
  refine ⟨⟨rfl, rfl, rfl, rfl, rfl⟩, fun a now p => ⟨Annunciator.take_of_silent now, fun cur hcur =>
    ⟨Annunciator.take_preempts now hcur, fun hle => ?_⟩⟩⟩
  rw [Annunciator.take_queues now hcur hle]
  refine ⟨fun hroom => ?waits, fun hfull => ⟨fun before w after hqueue hw hbefore => ?replaces, fun hnone => ?dropped⟩⟩
  case waits => rw [queuePattern_of_room hroom]
  case replaces =>
    rw [hqueue] at hfull ⊢
    rw [queuePattern_replaces hfull hw hbefore]
  case dropped => rw [queuePattern_drops hfull hnone]

end Sys2Proof.Machine
end

section
/-! SUPPORT. What offering an entry, telling its producer and placing notices leave alone: a relation between two states
that every one of these operations keeps. -/

namespace Sys2Proof.Machine

/-- The tag of the verdict that waits. -/
def Evaluator.verdictTag : Evaluator → Option Nat
  | .idle => none
  | .evaluating _ => none
  | .awaiting _ v _ => some v.tag

/-- What telling the producers and placing notices and responses leaves alone (R124, R131, R132, R137): everything but the
port, the Journal, the three outgoing places, the resolution queue, and how far the waiting verdict's entry has come. -/
structure Told (s t : State) : Prop where
  powered : t.powered = s.powered
  timeBase : t.timeBase = s.timeBase
  nextTick : t.nextTick = s.nextTick
  supplyLow : t.supplyLow = s.supplyLow
  settings : t.settings = s.settings
  reader : t.reader = s.reader
  intake : t.intake = s.intake
  annunciator : t.annunciator = s.annunciator
  free : t.free = s.free
  pending : t.pending = s.pending
  position : t.position = { s.position with outgoing := t.position.outgoing }
  tables : t.tables = { s.tables with outgoing := t.tables.outgoing }
  memory : t.memory = { s.memory with resolutions := t.memory.resolutions }
  context : t.evaluator.context = s.evaluator.context
  verdictTag : t.evaluator.verdictTag = s.evaluator.verdictTag

namespace Told

variable {s t u : State}

theorem refl (s : State) : Told s s := ⟨rfl, rfl, rfl, rfl, rfl, rfl, rfl, rfl, rfl, rfl, rfl, rfl, rfl, rfl, rfl⟩

theorem trans (h : Told s t) (k : Told t u) : Told s u where
  powered := k.powered.trans h.powered
  timeBase := k.timeBase.trans h.timeBase
  nextTick := k.nextTick.trans h.nextTick
  supplyLow := k.supplyLow.trans h.supplyLow
  settings := k.settings.trans h.settings
  reader := k.reader.trans h.reader
  intake := k.intake.trans h.intake
  annunciator := k.annunciator.trans h.annunciator
  free := k.free.trans h.free
  pending := k.pending.trans h.pending
  position := by rw [k.position, h.position]
  tables := by rw [k.tables, h.tables]
  memory := by rw [k.memory, h.memory]
  context := k.context.trans h.context
  verdictTag := k.verdictTag.trans h.verdictTag

theorem pendingList (h : Told s t) : t.memory.pendingList = s.memory.pendingList := by rw [h.memory]
theorem slots (h : Told s t) : t.memory.slots = s.memory.slots := by rw [h.memory]
theorem clearDeferred (h : Told s t) : t.memory.clearDeferred = s.memory.clearDeferred := by rw [h.memory]
theorem clock (h : Told s t) : t.position.clock = s.position.clock := by rw [h.position]

/-! ## The blocks that may change -/

theorem setPort (x : TerminalPort) (s : State) : Told s (s.setPort x) := { refl s with }
theorem setJournal (x : Journal) (s : State) : Told s (s.setJournal x) := { refl s with }
theorem setResolutions (l : List Resolution) (s : State) :
    Told s (s.setMemory { s.memory with resolutions := l }) := { refl s with memory := rfl }
theorem setEvaluator {e : Evaluator} (hc : e.context = s.evaluator.context)
    (hv : e.verdictTag = s.evaluator.verdictTag) : Told s (s.setEvaluator e) :=
  { refl s with context := hc, verdictTag := hv }

/-! ## Notices and responses -/

theorem notice (b : NoticeBody) (s : State) : Told s (Machine.notice b s) := setPort _ s
theorem respond (cls : Nat) (r : Reply) (s : State) : Told s (Machine.respond cls r s) := setPort _ s
theorem holdResponse (cls : Nat) (s : State) : Told s (Machine.holdResponse cls s) := setPort _ s
theorem produce (cls : Nat) (r : Reply) (s : State) : Told s (Machine.produce cls r s) := setPort _ s
theorem produceAll (cls : Nat) (r : Reply) (s : State) : Told s (Machine.produceAll cls r s) := setPort _ s
theorem resolvedNotice (r : Resolution) (q : Option Nat) (s : State) : Told s (Machine.resolvedNotice r q s) :=
  setPort _ s
theorem fullNotice (c : FullCause) (n : Nat) (s : State) : Told s (Machine.fullNotice c n s) := setPort _ s

theorem clearedNotices (l : List PendingConsume) (s : State) : Told s (Machine.clearedNotices l s) := by
  rw [clearedNotices_eq]
  exact setPort _ s

/-! ## The producers -/

theorem joinWaiting (p : Producer) (s : State) : Told s (Machine.joinWaiting p s) := by
  unfold Machine.joinWaiting
  split
  · exact refl s
  · exact setJournal _ s

theorem evaluatorQueued (q : Nat) (s : State) : Told s (Machine.evaluatorQueued q s) := by
  unfold Machine.evaluatorQueued
  split
  next heq => exact setEvaluator (by rw [heq]; rfl) (by rw [heq]; rfl)
  next => exact refl s

theorem evaluatorDropped (s : State) : Told s (Machine.evaluatorDropped s) := by
  unfold Machine.evaluatorDropped
  split
  next heq => exact setEvaluator (by rw [heq]; rfl) (by rw [heq]; rfl)
  next => exact refl s

theorem positionTold (s : State) : Told s (Machine.positionTold s) := by
  unfold Machine.positionTold
  split
  next => exact refl s
  next => exact { refl s with position := rfl }

theorem tablesTold (s : State) : Told s (Machine.tablesTold s) := by
  unfold Machine.tablesTold
  split
  next => exact { refl s with tables := rfl }
  next => exact { refl s with tables := rfl }
  next => exact refl s

theorem memoryQueued (q : Nat) (s : State) : Told s (Machine.memoryQueued q s) := by
  unfold Machine.memoryQueued
  split
  next => exact refl s
  next r rest _ =>
    have h := (setResolutions rest s).trans (resolvedNotice r (some q) _)
    split
    · exact h
    · exact h.trans (joinWaiting _ _)

theorem resolvedDropped (l : List Resolution) : ∀ s, Told s (Machine.resolvedDropped l s) := by
  induction l with
  | nil => exact refl
  | cons r rest ih => exact fun s => (resolvedNotice r none s).trans (ih _)

theorem memoryDropped (s : State) : Told s (Machine.memoryDropped s) :=
  (setResolutions [] s).trans (resolvedDropped _ _)

theorem controlTold (c : ControlItem) (q : Option Nat) (s : State) : Told s (Machine.controlTold c q s) := by
  unfold Machine.controlTold
  cases c with
  | note bytes => exact (setJournal _ s).trans (produce _ _ _)
  | mark value clamped => exact (setJournal _ s).trans (produce _ _ _)
  | started cause generation => exact (setJournal _ s).trans (notice _ _)
  | closed =>
    cases q with
    | some q => exact (setJournal _ s).trans (setJournal _ _)
    | none => exact ((setJournal _ s).trans (setJournal _ _)).trans (produce _ _ _)

theorem tellQueued (p : Producer) (q : Nat) (s : State) : Told s (Machine.tellQueued p q s) := by
  cases p with
  | evaluator => exact evaluatorQueued q s
  | position => exact positionTold s
  | tables => exact tablesTold s
  | memory => exact memoryQueued q s
  | control =>
    simp only [Machine.tellQueued]
    split
    · exact refl s
    · exact controlTold _ _ s

theorem tellDropped (p : Producer) (s : State) : Told s (Machine.tellDropped p s) := by
  cases p with
  | evaluator => exact evaluatorDropped s
  | position => exact positionTold s
  | tables => exact tablesTold s
  | memory => exact memoryDropped s
  | control =>
    simp only [Machine.tellDropped]
    split
    · exact refl s
    · exact controlTold _ _ s

theorem tellAllDropped (l : List Producer) : ∀ s, Told s (Machine.tellAllDropped l s) := by
  induction l with
  | nil => exact refl
  | cons p rest ih => exact fun s => (tellDropped p s).trans (ih _)

/-! ## The Journal -/

theorem dropWaiting (s : State) : Told s (Machine.dropWaiting s) := (setJournal _ s).trans (tellAllDropped _ _)

theorem exhaust (s : State) : Told s (Machine.exhaust s) :=
  ((setJournal _ s).trans (dropWaiting _)).trans (fullNotice _ _ _)

theorem enqueue (p : Producer) (s : State) : Told s (Machine.enqueue p s) := by
  unfold Machine.enqueue
  split
  next => exact refl s
  next d _ =>
    have h : Told s (Machine.tellQueued p s.journal.nextSeq (queueEntry (entryNow s d) s)) :=
      (setJournal _ s).trans (tellQueued p _ _)
    dsimp only
    split
    · exact h.trans (exhaust _)
    · exact h

theorem offer (p : Producer) (s : State) : Told s (Machine.offer p s) := by
  unfold Machine.offer
  split
  · exact tellDropped p s
  · split
    · exact refl s
    · split
      · exact enqueue p s
      · exact joinWaiting p s

theorem tellQueueDropped (e : Entry) (s : State) : Told s (Machine.tellQueueDropped e s) := by
  unfold Machine.tellQueueDropped
  split
  · split
    next heq =>
      split
      · exact setEvaluator (by rw [heq]; rfl) (by rw [heq]; rfl)
      · exact refl s
    next => exact refl s
  · exact produce _ _ s
  · exact refl s

theorem dropEntries (l : List Entry) : ∀ s, Told s (Machine.dropEntries l s) := by
  induction l with
  | nil => exact refl
  | cons e rest ih => exact fun s => (tellQueueDropped e s).trans (ih _)

theorem becomeFull (s : State) : Told s (Machine.becomeFull s) :=
  (((setJournal _ s).trans (dropEntries _ _)).trans (dropWaiting _)).trans (fullNotice _ _ _)

theorem resolve (tag : Nat) (key : Key) (o : ConsumeOutcome) (s : State) : Told s (Machine.resolve tag key o s) := by
  unfold Machine.resolve
  dsimp only
  split
  · exact resolvedNotice _ _ s
  · split
    · exact (setResolutions _ s).trans (offer _ _)
    · exact setResolutions _ s

theorem tellCompleted (e : Entry) (s : State) : Told s (Machine.tellCompleted e s) := by
  unfold Machine.tellCompleted
  split
  · split
    next heq =>
      split
      · exact setEvaluator (by rw [heq]; rfl) (by rw [heq]; rfl)
      · exact refl s
    next => exact refl s
  · exact produce _ _ s
  · exact refl s

theorem fullAfterProgram (s : State) : Told s (Machine.fullAfterProgram s) := by
  unfold Machine.fullAfterProgram
  split
  · exact becomeFull s
  · exact refl s

theorem finishProgram (s : State) : Told s (Machine.finishProgram s) := by
  unfold Machine.finishProgram
  split
  · exact setJournal _ s
  · exact ((setJournal _ s).trans (tellCompleted _ _)).trans (fullAfterProgram _)

theorem moveHead (s : State) : Told s (Machine.moveHead s) := by
  unfold Machine.moveHead
  split
  · exact setJournal _ s
  · exact refl s
  · split
    · exact refl s
    · exact becomeFull s

theorem endFull (k : Nat) (s : State) : Told s (Machine.endFull k s) := by
  unfold Machine.endFull
  split
  · exact (setJournal _ s).trans (notice _ _)
  · exact refl s

theorem finishJournalErase (s : State) : Told s (Machine.finishJournalErase s) := by
  unfold Machine.finishJournalErase
  split
  next => exact refl s
  next k _ =>
    dsimp only
    split
    · exact (setJournal _ s).trans (setJournal _ _)
    · exact (setJournal _ s).trans (endFull k _)

theorem queueWaiting (s : State) : Told s (Machine.queueWaiting s) := by
  unfold Machine.queueWaiting
  split
  · exact refl s
  · exact (setJournal _ s).trans (enqueue _ _)

theorem startRecoveryErase (s : State) : Told s (Machine.startRecoveryErase s) := by
  unfold Machine.startRecoveryErase
  split
  · exact refl s
  · exact setJournal _ s

/-! ## The frames of the Journal -/

theorem raiseMark (value : Nat) (clamped : Bool) (s : State) : Told s (Machine.raiseMark value clamped s) :=
  ((setJournal _ s).trans (holdResponse _ _)).trans (offer _ _)

theorem takeExportRead (payload : List Byte) (s : State) : Told s (Machine.takeExportRead payload s) := by
  unfold Machine.takeExportRead
  split
  · exact respond _ _ s
  · exact (setPort _ s).trans (respond _ _ _)

theorem takeExportMark (payload : List Byte) (s : State) : Told s (Machine.takeExportMark payload s) := by
  unfold Machine.takeExportMark applyMark
  split
  · exact respond _ _ s
  · split
    · split
      · exact raiseMark _ _ s
      · exact respond _ _ s
    · split
      · exact respond _ _ s
      · exact raiseMark _ _ s

theorem takeNote (payload : List Byte) (s : State) : Told s (Machine.takeNote payload s) := by
  unfold Machine.takeNote
  split
  · exact respond _ _ s
  · exact ((setJournal _ s).trans (holdResponse _ _)).trans (offer _ _)

end Told

end Sys2Proof.Machine
end

section
/-! SUPPORT. The bounds of `State.bounded`, command by command. -/

namespace Sys2Proof.Machine

/-! ## The form of a command -/

/-- Where a command leads, the bounds stand. -/
def EndsOk (x : Host.Outcome State Fault Refusal) : Prop := ∀ t, x = .next t → t.Ok

section
variable {s : State} {f : State → State} {g : List Byte → State → State}

theorem endsOk_next {t : State} (h : t.Ok) : EndsOk (.next t) := fun u hu => by
  cases hu
  exact h

theorem act_endsOk (h : s.Ok) (occasion : Bool) (hf : (f s).Ok) : EndsOk (act occasion f s) := by
  unfold act
  split
  · exact endsOk_next hf.settle
  · exact endsOk_next h

theorem dispatchWhen_endsOk (h : s.Ok) (cls : Nat) (owner : Bool) (takes : List Byte → Bool)
    (hg : ∀ (payload : List Byte) (u : State), u.Ok → u.port.responses.length < 8 → (g payload u).Ok) :
    EndsOk (dispatchWhen cls owner takes g s) := by
  unfold dispatchWhen
  split
  next => exact endsOk_next h
  next fr _ =>
    unfold act
    split
    next hocc =>
      have hlen : s.port.responses.length < 8 := by
        simp only [frameReady, Bool.and_eq_true, decide_eq_true_eq] at hocc
        omega
      exact endsOk_next (hg fr.payload (takeFrame s) h.takeFrame hlen).settle
    next => exact endsOk_next h

theorem dispatch_endsOk (h : s.Ok) (cls : Nat) (owner : Bool)
    (hg : ∀ (payload : List Byte) (u : State), u.Ok → u.port.responses.length < 8 → (g payload u).Ok) :
    EndsOk (dispatch cls owner g s) := dispatchWhen_endsOk h cls owner _ hg

theorem onReaderFrame_endsOk (h : s.Ok) (cls : Nat) (bytes : List Byte)
    (hg : ∀ (payload : List Byte) (u : State), u.Ok → (g payload u).Ok) : EndsOk (onReaderFrame cls bytes g s) := by
  unfold onReaderFrame
  split
  · exact endsOk_next h
  · exact act_endsOk h _ (hg _ _ (h.setReader _))

end

theorem State.Ok.setRx {s : State} (h : s.Ok) (l : Link) (rx : List Byte) : (Machine.setRx l rx s).Ok := by
  cases l
  · exact h.setReader _
  · exact h.setPort h.port

/-! ## Supply -/

theorem risingKeys_tearSlots (base n : Nat) : ∀ {slots : List (Nat × JSlot)}, risingKeys slots = true →
    risingKeys (tearSlots base n slots) = true := by
  induction n with
  | zero => exact fun h => h
  | succ n ih => exact fun h => ih (risingKeys_putAt _ _ _ h)

theorem cutSlot_key {occurrence : Nat} {x y : Nat × JSlot} (h : cutSlot occurrence x = some y) : y.1 = x.1 := by
  unfold cutSlot at h
  split at h <;> simp_all [eq_comm]

theorem risingKeys_cutSector (occurrence k : Nat) {slots : List (Nat × JSlot)} (h : risingKeys slots = true) :
    risingKeys (cutSector occurrence k slots) = true := by
  refine risingKeys_putAt _ _ _ (risingKeys_filterMap _ (fun x y hxy => ?_) slots h)
  split at hxy
  · exact cutSlot_key hxy
  · exact congrArg Prod.fst (Option.some.inj hxy).symm

/-- R150: a loss of supply keeps the ring a canonical list. -/
theorem risingKeys_cut (j : Journal) (occurrence : Nat) (h : risingKeys j.slots = true) :
    risingKeys (j.cut occurrence) = true := by
  unfold Journal.cut
  split
  · exact risingKeys_tearSlots _ _ h
  · exact risingKeys_cutSector _ _ h
  · exact h

theorem Bank.cutErase_mem_wf (b : Bank) (occurrence k : Nat) (h : Memory.wf b.mem = true) :
    Memory.wf (b.cutErase occurrence k).mem = true := by
  unfold Bank.cutErase
  dsimp only
  split <;> exact Memory.wf_cutBytes _ _ _ h

theorem Bank.cutErase_role (b : Bank) (occurrence k : Nat) : (b.cutErase occurrence k).role = b.role := by
  unfold Bank.cutErase
  dsimp only
  split <;> rfl

/-- R75: a loss of supply keeps the banks canonical. -/
theorem TableStore.ok_cut {t : TableStore} (h : t.ok) (occurrence : Nat) : (t.cut occurrence).ok := by
  unfold TableStore.cut
  split
  next => exact h
  next n k _ =>
    exact t.ok_setBank h n _ (Bank.cutErase_mem_wf _ _ _ (t.ok_bank h n))
      (by rw [Bank.cutErase_role]; exact id)
  next n _ => exact t.ok_setBank h n _ (t.ok_bank h n) id
  next n position rs _ _ =>
    split
    · exact h
    · exact t.ok_setBank h n _ (Memory.wf_cutRecordBytes _ _ _ (t.ok_bank h n)) id
  next n _ _ => exact t.ok_setBank h n _ (t.ok_bank h n) id

/-- R57: the start-up choice makes at most one bank ACTIVE. -/
theorem TableStore.ok_atStart {t : TableStore} (h : t.ok) : t.atStart.ok := by
  refine ⟨h.1, h.2.1, ?_⟩
  unfold TableStore.oneActive TableStore.atStart Bank.atStart
  cases startupChoice t.bank0 t.bank1 with
  | none => rfl
  | some n => cases n <;> rfl

theorem TerminalPort.initial_ok : TerminalPort.initial.ok := ⟨by decide, by decide, by decide⟩

theorem TerminalPort.restarted_ok (p : TerminalPort) : p.restarted.ok := TerminalPort.initial_ok

theorem IntakeQueue.empty_ok (causes : HoldCauses) :
    IntakeQueue.ok { queue := [], tagCounter := 0, causes := causes } := ⟨Nat.zero_le 14, Nat.zero_le 255⟩

theorem PositionUnit.initial_ok : PositionUnit.initial.ok := ⟨by decide, by decide, by decide, by decide⟩

theorem State.Ok.cutFlash {s : State} (h : s.Ok) : (Machine.cutFlash s).Ok :=
  { h with
    journal := ⟨risingKeys_cut _ _ h.journal.1, h.journal.2⟩
    tables := TableStore.ok_cut h.tables _ }

theorem Settings.defaults_inRange : Settings.defaults.inRange = true := by decide

theorem placeOk_idle (m : InspectionMemory) : placeOk .idle m := fun _ _ _ h => nomatch h

theorem InspectionMemory.initial_ok : InspectionMemory.initial.ok := ⟨rfl, by decide, by decide⟩

theorem State.Ok.boot {s : State} (h : s.Ok) (low : Bool) : (Machine.boot low s).Ok where
  tables := TableStore.ok_atStart h.tables
  journal := ⟨h.journal.1, Nat.zero_le 8, List.nodup_nil⟩
  memory := InspectionMemory.initial_ok
  port := TerminalPort.initial_ok
  intake := IntakeQueue.empty_ok _
  position := PositionUnit.initial_ok
  patterns := Nat.zero_le 4
  settings := Settings.defaults_inRange
  place := placeOk_idle _

theorem State.Ok.darken {s : State} (h : s.Ok) : (Machine.darken s).Ok := { h.boot s.supplyLow with }

theorem State.Ok.warmRestart {s : State} (h : s.Ok) : (Machine.warmRestart s).Ok where
  tables := TableStore.ok_atStart h.tables
  journal := ⟨h.journal.1, Nat.zero_le 8, List.nodup_nil⟩
  memory := InspectionMemory.initial_ok
  port := TerminalPort.restarted_ok _
  intake := IntakeQueue.empty_ok _
  position := ⟨Nat.zero_le 24, h.position.2.1, h.position.2.2.1, Nat.zero_le 32⟩
  patterns := Nat.zero_le 4
  settings := Settings.defaults_inRange
  place := placeOk_idle _

theorem powerLoss_endsOk {s : State} (h : s.Ok) : EndsOk (execPowerLoss s) := by
  refine endsOk_next ?_
  split
  · exact h.cutFlash.darken
  · exact h

theorem powerOn_endsOk {s : State} (h : s.Ok) (low : Bool) : EndsOk (execPowerOn low s) := by
  refine endsOk_next (State.Ok.boot ?_ low)
  split
  · exact h.cutFlash
  · exact h

theorem State.Ok.setSafe {s : State} (h : s.Ok) (low : Bool) : (Machine.setSafe low s).Ok :=
  (h.setSupplyLow low).setIntake h.intake

/-! ## Intake -/

namespace State.Ok

variable {s : State}

theorem discardArrival (h : s.Ok) (why : DiscardReason) (key : Option Key) :
    (Machine.discardArrival why key s).Ok := (h.addTap _).notice _

theorem takePresentation (h : s.Ok) (payload : List Byte) : (Machine.takePresentation payload s).Ok := by
  unfold Machine.takePresentation
  split
  · exact h.discardArrival _ _
  · split
    next hq => exact h.enrol hq _ _
    next => exact h.discardArrival _ _

theorem takeKeyed (h : s.Ok) (hl : s.port.responses.length < 8) (payload : List Byte) :
    (Machine.takeKeyed payload s).Ok := by
  unfold Machine.takeKeyed
  split
  · exact h.respond hl _ _
  · split
    next hq => exact State.Ok.enrol (h.respond hl _ _) hq.1 _ _
    next => exact h.respond hl _ _

theorem flushQueue (h : s.Ok) (hl : s.port.responses.length < 8) (payload : List Byte) :
    (Machine.flushQueue payload s).Ok := by
  unfold Machine.flushQueue
  split
  · exact (h.respond hl _ _).emptyQueue _
  · exact h.respond hl _ _

theorem takeControl (h : s.Ok) (cls : Nat) (payload : List Byte) : (Machine.takeControl cls payload s).Ok := by
  unfold Machine.takeControl
  split
  · exact h.setPort h.port
  · exact h

theorem sent (h : s.Ok) : (s.setPort s.port.sent).Ok := by
  refine h.setPort ?_
  obtain ⟨hr, hn⟩ := h.port
  have htail : s.port.responses.tail.length ≤ 8 := by rw [List.length_tail]; omega
  unfold TerminalPort.sent
  split
  · exact ⟨htail, hn⟩
  all_goals exact ⟨hr, hn⟩

end State.Ok

/-! ## The clock and the position -/

theorem readTime_minute {payload : List Byte} {t : Time} (h : readTime payload = some t) : t.minute ≤ 1919 := by
  unfold readTime at h
  split at h
  · cases h
  · split at h
    next hwf =>
      cases h
      exact of_decide_eq_true hwf
    next => cases h

theorem readReport_minute {payload : List Byte} {r : Report} (h : readReport payload = some r) :
    r.time.minute ≤ 1919 := by
  unfold readReport at h
  split at h
  · cases h
  · split at h
    next hwf =>
      cases h
      exact of_decide_eq_true hwf
    next => cases h

theorem applyTime_responses (t : Time) (s : State) : (applyTime t s).port.responses = s.port.responses := by
  obtain ⟨_, _, _, _, _, _, _, _, _, h⟩ := applyTime_frame t s
  rw [h]

namespace State.Ok

variable {s : State}

theorem clockSet (h : s.Ok) {t : Time} (ht : t.minute ≤ 1919) : (s.clockSet t).Ok := by
  have htables : (s.clockSet t).tables.ok := by
    obtain ⟨sch, due, heq⟩ := clockSet_tables_frame t s
    rw [heq]
    exact h.tables
  obtain ⟨hhist, -, -, hcoach⟩ := h.position
  exact { h with position := ⟨hhist, ht, Nat.zero_le 2, hcoach⟩, tables := htables }

theorem noticed (h : s.Ok) (b : NoticeBody) : (s.noticed b).Ok := h.notice b

theorem applyTime (h : s.Ok) {t : Time} (ht : t.minute ≤ 1919) : (Machine.applyTime t s).Ok := by
  rcases time_cases t s.position.clock with hforward | hearly | ⟨hback, hfar⟩
  · rw [applyTime_forward hforward]
    exact h.clockSet ht
  · rw [applyTime_slightlyEarly hearly]
    obtain ⟨hhist, hmin, -, hcoach⟩ := h.position
    obtain ⟨-, -, hwithin⟩ := (slightlyEarly_iff _ _).mp hearly
    exact h.setPosition ⟨hhist, hmin, by show _ - _ ≤ 2; omega, hcoach⟩
  · rw [applyTime_back hback hfar]
    obtain ⟨-, hmin, hdebt, hcoach⟩ := (h.clockSet ht).position
    exact ((h.clockSet ht).noticed _).setPosition ⟨Nat.zero_le 24, hmin, hdebt, hcoach⟩

theorem answerTime (h : s.Ok) (hl : s.port.responses.length < 8) (cls : Nat) (st : Status) :
    (Machine.answerTime cls st s).Ok := h.respond hl _ _

theorem takeTime (h : s.Ok) (hl : s.port.responses.length < 8) (payload : List Byte) :
    (Machine.takeTime payload s).Ok := by
  unfold Machine.takeTime
  split
  next => exact h.answerTime hl _ _
  next t ht =>
    refine State.Ok.answerTime (h.applyTime (readTime_minute ht)) ?_ _ _
    rw [applyTime_responses]
    exact hl

theorem moveTo (h : s.Ok) (pos : PosState) (route : Nat) : (Machine.moveTo pos route s).Ok := by
  unfold Machine.moveTo
  split
  · exact h.setPosition h.position
  · exact h.setPosition h.position

theorem pushDeparture (h : s.Ok) (d : Departure) : (Machine.pushDeparture d s).Ok := by
  obtain ⟨hhist, hrest⟩ := h.position
  unfold Machine.pushDeparture
  split
  next hlt =>
    refine h.setPosition ⟨?_, hrest⟩
    simp only [historyLimit, List.length_append, List.length_cons, List.length_nil] at hlt ⊢
    omega
  next =>
    refine h.setPosition ⟨?_, hrest⟩
    simp only [List.length_append, List.length_drop, List.length_cons, List.length_nil]
    omega

end State.Ok

theorem moveTo_port (pos : PosState) (route : Nat) (s : State) : (moveTo pos route s).port = s.port := by
  unfold moveTo
  split <;> rfl

theorem pushDeparture_port (d : Departure) (s : State) : (pushDeparture d s).port = s.port := by
  unfold pushDeparture
  split <;> rfl

namespace State.Ok

variable {s : State}

theorem offerDeparture (h : s.Ok) (hl : s.port.responses.length < 8) (d : Departure) :
    (Machine.offerDeparture d s).Ok :=
  State.Ok.offer (State.Ok.holdResponse (by exact h.setPosition h.position) (by exact hl) _) _

theorem departed (h : s.Ok) (hl : s.port.responses.length < 8) (r : Report) : (Machine.departed r s).Ok := by
  refine ((h.moveTo _ _).pushDeparture _).offerDeparture ?_ _
  rw [pushDeparture_port, moveTo_port]
  exact hl

theorem checkDepart (h : s.Ok) (hl : s.port.responses.length < 8) (r : Report) : (Machine.checkDepart r s).Ok := by
  unfold Machine.checkDepart
  split
  · exact h.answerTime hl _ _
  · split
    · exact h.departed hl r
    · exact h.answerTime hl _ _

theorem checkArrive (h : s.Ok) (hl : s.port.responses.length < 8) (r : Report) : (Machine.checkArrive r s).Ok := by
  unfold Machine.checkArrive
  split
  · exact h.answerTime hl _ _
  · split
    · refine State.Ok.answerTime (h.moveTo _ _) ?_ _ _
      rw [moveTo_port]
      exact hl
    · exact h.answerTime hl _ _

theorem checkSwitch (h : s.Ok) (hl : s.port.responses.length < 8) (r : Report) : (Machine.checkSwitch r s).Ok := by
  unfold Machine.checkSwitch
  split
  · exact h.answerTime hl _ _
  · exact State.Ok.answerTime (by exact h.setPosition h.position) (by exact hl) _ _

/-- A report of the train is refused, or its time applied before it is worked. -/
theorem report_cases {cls : Nat} {payload : List Byte} {work : Report → State → State} (h : s.Ok)
    (hl : s.port.responses.length < 8)
    (hwork : ∀ (r : Report) (u : State), u.Ok → u.port.responses.length < 8 → (work r u).Ok) :
    (match readReport payload with
      | none => Machine.answerTime cls .badArg s
      | some r => work r (Machine.applyTime r.time s)).Ok := by
  split
  next => exact h.answerTime hl _ _
  next r hr =>
    refine hwork r _ (h.applyTime (readReport_minute hr)) ?_
    rw [applyTime_responses]
    exact hl

theorem takeDepart (h : s.Ok) (hl : s.port.responses.length < 8) (payload : List Byte) :
    (Machine.takeDepart payload s).Ok := report_cases h hl fun r _ hu hlu => checkDepart hu hlu r

theorem takeArrive (h : s.Ok) (hl : s.port.responses.length < 8) (payload : List Byte) :
    (Machine.takeArrive payload s).Ok := report_cases h hl fun r _ hu hlu => checkArrive hu hlu r

theorem takeSwitch (h : s.Ok) (hl : s.port.responses.length < 8) (payload : List Byte) :
    (Machine.takeSwitch payload s).Ok := report_cases h hl fun r _ hu hlu => checkSwitch hu hlu r

theorem takeCoach (h : s.Ok) (hl : s.port.responses.length < 8) (payload : List Byte) :
    (Machine.takeCoach payload s).Ok := by
  unfold Machine.takeCoach
  split
  · exact h.respond hl _ _
  · split
    next hcoach =>
      obtain ⟨hhist, hmin, hdebt, -⟩ := h.position
      exact State.Ok.respond (by exact h.setPosition ⟨hhist, hmin, hdebt, hcoach⟩) (by exact hl) _ _
    next => exact h.respond hl _ _

theorem newRun (h : s.Ok) (run : Nat) : (Machine.newRun run s).Ok := by
  obtain ⟨-, hrest⟩ := h.position
  exact h.setPosition ⟨Nat.zero_le 24, hrest⟩

theorem clearOrDefer (h : s.Ok) : (Machine.clearOrDefer s).Ok := by
  unfold Machine.clearOrDefer
  split
  · exact h.clearMemory
  · exact h.setMemory h.memory h.place

theorem takeRunStart (h : s.Ok) (hl : s.port.responses.length < 8) (payload : List Byte) :
    (Machine.takeRunStart payload s).Ok := by
  unfold Machine.takeRunStart
  split
  · exact h.respond hl _ _
  · split
    · exact h.respond hl _ _
    · exact ((((h.holdResponse hl _).newRun _).emptyQueue _).clearOrDefer).offer _

theorem minuteTick (h : s.Ok) : (Machine.minuteTick s).Ok := by
  have h1 := (h.setTimeBase (max s.timeBase s.nextTick)).setNextTick (s.nextTick + minuteMs)
  obtain ⟨hhist, hmin, hdebt, hcoach⟩ := h.position
  unfold Machine.minuteTick tickClock
  split
  · exact h1.setPosition ⟨hhist, hmin, by show _ - 1 ≤ 2; simp only [State.setNextTick_position, State.setTimeBase_position]; omega, hcoach⟩
  · split
    next hlt =>
      have h2 := h1.setPosition (x := { s.position with clock :=
        { s.position.clock with minute := s.position.clock.minute + 1 } }) ⟨hhist, hlt, hdebt, hcoach⟩
      rw [clockChanged_eq]
      exact h2.setTables (h2.clockSet (t := { s.position.clock with minute := s.position.clock.minute + 1 }) hlt).tables
    next => exact h1

end State.Ok

/-! ## The Journal's completions -/

theorem risingKeys_putParts (base : Nat) (e : Entry) (n : Nat) {slots : List (Nat × JSlot)}
    (h : risingKeys slots = true) : risingKeys (putParts base e n slots) = true := by
  induction n with
  | zero => exact h
  | succ n ih => exact risingKeys_putAt _ _ _ ih

theorem State.Ok.tellCompleted {s : State} (h : s.Ok) (e : Entry) : (Machine.tellCompleted e s).Ok := by
  unfold Machine.tellCompleted
  split
  · split
    next c v q heq =>
      split
      · refine h.setEvaluator (placeOk_same h.place (fun c' v' w' hv => ⟨c, v, .queued q, heq, ?_⟩) le_rfl)
        cases hv
        rfl
      · exact h
    next => exact h
  · exact h.produce _ _
  · exact h

theorem State.Ok.fullAfterProgram {s : State} (h : s.Ok) : (Machine.fullAfterProgram s).Ok := by
  unfold Machine.fullAfterProgram
  split
  · exact h.becomeFull
  · exact h

/-! ## The tables -/

theorem Bank.eraseSector_mem_wf (b : Bank) (k : Nat) (h : Memory.wf b.mem = true) :
    Memory.wf (b.eraseSector k).mem = true := by
  unfold Bank.eraseSector
  dsimp only
  split <;> exact Memory.wf_dropRange _ _ _ h

theorem Bank.eraseSector_role (b : Bank) (k : Nat) : (b.eraseSector k).role = b.role := by
  unfold Bank.eraseSector
  dsimp only
  split <;> rfl

theorem Memory.wf_programRecords (e : DirEntry) (rs : List (Nat × List Byte)) :
    ∀ {m : List Host.Cell}, Memory.wf m = true → Memory.wf (programRecords e rs m) = true := by
  induction rs with
  | nil => exact fun h => h
  | cons r rest ih => exact fun h => ih (Memory.wf_writeBytes _ _ _ h)

theorem Bank.otherRole_ne_active (b : Bank) : b.otherRole ≠ .active := by
  unfold Bank.otherRole
  split
  · split <;> simp
  next h => exact h

/-- R72: at a commit the target alone is ACTIVE. -/
theorem TableStore.ok_committed {t : TableStore} (h : t.ok) (n : Nat) : (t.committed n).ok := by
  have hother := Bank.otherRole_ne_active (t.bank (1 - n))
  have hmem := t.ok_bank h
  by_cases hn : n = 0
  · subst hn
    exact ⟨hmem 0, hmem 1, by simpa [TableStore.committed, TableStore.setBank, TableStore.oneActive] using hother⟩
  · have h1 : 1 - n = 0 := by omega
    rw [h1] at hother
    refine ⟨?_, ?_, ?_⟩
    · simpa [TableStore.committed, TableStore.setBank, hn, h1] using hmem 0
    · simpa [TableStore.committed, TableStore.setBank, hn, h1] using hmem n
    · simpa [TableStore.committed, TableStore.setBank, TableStore.oneActive, hn, h1] using hother

namespace State.Ok

variable {s : State}

theorem openLoad (h : s.Ok) (hl : s.port.responses.length < 8) (m : Manifest) (d : List DirEntry) :
    (Machine.openLoad m d s).Ok := State.Ok.holdResponse (by exact h.setTables h.tables) (by exact hl) _

theorem takeOpen (h : s.Ok) (hl : s.port.responses.length < 8) (payload : List Byte) :
    (Machine.takeOpen payload s).Ok := by
  unfold Machine.takeOpen
  split
  · exact h.respond hl _ _
  · unfold checkManifest
    split
    · split
      · exact h.respond hl _ _
      · exact h.openLoad hl _ _
    · exact h.respond hl _ _

theorem startErase (h : s.Ok) : (Machine.startErase s).Ok := by
  unfold Machine.startErase
  split
  · exact h.setTables h.tables
  · exact h

theorem startHeader (h : s.Ok) : (Machine.startHeader s).Ok := by
  unfold Machine.startHeader
  split
  · exact h.setTables h.tables
  · exact h

theorem abandonOpen (h : s.Ok) : (Machine.abandonOpen s).Ok :=
  State.Ok.produce (by exact h.setTables h.tables) _ _

theorem abandonNow (h : s.Ok) : (Machine.abandonNow s).Ok := h.abandonOpen.produceAll _ _

theorem sectorErased (h : s.Ok) (n k : Nat) : (Machine.sectorErased n k s).Ok :=
  h.setTables (s.tables.ok_setBank h.tables n _ (Bank.eraseSector_mem_wf _ k (s.tables.ok_bank h.tables n))
    (by rw [Bank.eraseSector_role]; exact id))

theorem afterErase (h : s.Ok) : (Machine.afterErase s).Ok := by
  unfold Machine.afterErase
  split
  · exact h.abandonNow
  · split
    · exact h.startHeader
    · exact h.startErase

theorem finishErase (h : s.Ok) : (Machine.finishErase s).Ok := by
  unfold Machine.finishErase
  split
  · exact h
  · exact (h.sectorErased _ _).afterErase

theorem headerProgrammed (h : s.Ok) (n : Nat) : (Machine.headerProgrammed n s).Ok :=
  h.setTables (s.tables.ok_setBank h.tables n _ (s.tables.ok_bank h.tables n) id)

theorem becomeLoading (h : s.Ok) : (Machine.becomeLoading s).Ok :=
  State.Ok.produce (by exact h.setTables h.tables) _ _

theorem finishHeader (h : s.Ok) : (Machine.finishHeader s).Ok := by
  unfold Machine.finishHeader
  split
  next => exact h
  next n _ =>
    dsimp only
    split
    · exact (h.headerProgrammed n).abandonNow
    · exact (h.headerProgrammed n).becomeLoading

theorem inLoading (h : s.Ok) (hl : s.port.responses.length < 8) (cls : Nat) {f : State → State} (hf : (f s).Ok) :
    (Machine.inLoading cls f s).Ok := by
  unfold Machine.inLoading
  cases s.tables.engineNow with
  | loading => exact hf
  | _ => exact h.respond hl _ _

theorem compareRecords (h : s.Ok) (hl : s.port.responses.length < 8) (e : DirEntry) (l : Load) (f : RecordFrame) :
    (Machine.compareRecords e l f s).Ok := by
  unfold Machine.compareRecords
  dsimp only
  split
  · exact h.respond hl _ _
  · split
    · exact h.respond hl _ _
    · exact State.Ok.holdResponse (by exact h.setTables h.tables) (by exact hl) _

theorem loadRecords (h : s.Ok) (hl : s.port.responses.length < 8) (f : RecordFrame) :
    (Machine.loadRecords f s).Ok := by
  unfold Machine.loadRecords
  split
  · exact h.respond hl _ _
  · split
    · exact h.respond hl _ _
    · exact h.compareRecords hl _ _ _

theorem takeRecord (h : s.Ok) (hl : s.port.responses.length < 8) (payload : List Byte) :
    (Machine.takeRecord payload s).Ok := by
  unfold Machine.takeRecord
  split
  · exact h.respond hl _ _
  · exact h.inLoading hl _ (h.loadRecords hl _)

theorem recordsProgrammed (h : s.Ok) (n position : Nat) (rs : List (Nat × List Byte)) (l : Load) (e : DirEntry) :
    (Machine.recordsProgrammed n position rs l e s).Ok :=
  h.setTables (s.tables.ok_setBank h.tables n _ (Memory.wf_programRecords e rs (s.tables.ok_bank h.tables n)) id)

theorem finishRecords (h : s.Ok) : (Machine.finishRecords s).Ok := by
  unfold Machine.finishRecords
  split
  · split
    · exact h
    · exact (h.recordsProgrammed _ _ _ _ _).produce _ _
  · exact h

theorem takeClose (h : s.Ok) (hl : s.port.responses.length < 8) (payload : List Byte) :
    (Machine.takeClose payload s).Ok := by
  unfold Machine.takeClose
  split
  · refine h.inLoading hl _ ?_
    unfold closeLoad
    split
    · exact h.respond hl _ _
    · split
      · exact h.respond hl _ _
      · exact State.Ok.holdResponse (by exact h.setTables h.tables) (by exact hl) _
  · exact h.respond hl _ _

theorem finishCheck (h : s.Ok) : (Machine.finishCheck s).Ok := by
  unfold Machine.finishCheck
  split
  · exact State.Ok.produce (by exact h.setTables h.tables) _ _
  · exact State.Ok.produce (by exact h.setTables h.tables) _ _

theorem commitAtOnce (h : s.Ok) (hl : s.port.responses.length < 8) : (Machine.commitAtOnce s).Ok :=
  (h.holdResponse hl _).setTables h.tables

theorem takeCommitNow (h : s.Ok) (hl : s.port.responses.length < 8) (payload : List Byte) :
    (Machine.takeCommitNow payload s).Ok := by
  unfold Machine.takeCommitNow
  split
  · exact h.respond hl _ _
  · split
    · exact h.commitAtOnce hl
    · exact h.respond hl _ _

theorem takeCommitTime (h : s.Ok) (hl : s.port.responses.length < 8) (payload : List Byte) :
    (Machine.takeCommitTime payload s).Ok := by
  unfold Machine.takeCommitTime
  split
  · exact h.respond hl _ _
  · split
    · exact h.respond hl _ _
    · split
      · exact h.commitAtOnce hl
      · exact State.Ok.respond (by exact h.setTables h.tables) (by exact hl) _ _

theorem startMark (h : s.Ok) : (Machine.startMark s).Ok := by
  unfold Machine.startMark
  split
  · exact h
  · exact h.setTables h.tables

theorem checkPosition (h : s.Ok) : (Machine.checkPosition s).Ok := by
  unfold Machine.checkPosition
  split
  · split
    · exact State.Ok.notice (by exact h.setPosition h.position) _
    · exact h
  · exact h

theorem finishCommit (h : s.Ok) : (Machine.finishCommit s).Ok := by
  unfold Machine.finishCommit
  split
  next => exact h
  next n kind _ =>
    refine State.Ok.checkPosition (State.Ok.notice (State.Ok.offer ?_ _) _)
    exact h.setTables (TableStore.ok_committed h.tables n)

theorem takeAbandon (h : s.Ok) (hl : s.port.responses.length < 8) (payload : List Byte) :
    (Machine.takeAbandon payload s).Ok := by
  have hatOnce : (abandonAtOnce s).Ok := State.Ok.respond (by exact h.setTables h.tables) (by exact hl) _ _
  have hopen : (Machine.abandonOpen s).port.responses.length < 8 := by
    show (fillFirst _ _ s.port.responses).length < 8
    rw [fillFirst_length]
    exact hl
  unfold Machine.takeAbandon
  split
  · unfold abandonLoad
    split
    · exact h.respond hl _ _
    · exact h.respond hl _ _
    · split
      · exact h.abandonOpen.respond hopen _ _
      · exact State.Ok.holdResponse (by exact h.setTables h.tables) (by exact hl) _
    all_goals exact hatOnce
  · exact h.respond hl _ _

/-! ## The Journal -/

theorem finishProgram (h : s.Ok) : (Machine.finishProgram s).Ok := by
  unfold Machine.finishProgram
  split
  next => exact h.setJournal h.journal
  next e rest hq =>
    obtain ⟨hslots, hlen, hwait⟩ := h.journal
    have hrest : rest.length ≤ 8 := by
      rw [hq, List.length_cons] at hlen
      omega
    refine (State.Ok.tellCompleted ?_ e).fullAfterProgram
    exact h.setJournal ⟨risingKeys_putParts _ _ _ hslots, hrest, hwait⟩

theorem moveHead (h : s.Ok) : (Machine.moveHead s).Ok := by
  unfold Machine.moveHead
  split
  · exact h.setJournal h.journal
  · exact h
  · split
    · exact h
    · exact h.becomeFull

theorem endFull (h : s.Ok) (k : Nat) : (Machine.endFull k s).Ok := by
  unfold Machine.endFull
  split
  · exact State.Ok.notice (by exact h.setJournal h.journal) _
  · exact h

theorem finishJournalErase (h : s.Ok) : (Machine.finishJournalErase s).Ok := by
  unfold Machine.finishJournalErase
  split
  next => exact h
  next k _ =>
    have h1 : (s.setJournal (s.journal.erasedSector k)).Ok :=
      h.setJournal ⟨risingKeys_dropRange _ _ _ h.journal.1, h.journal.2⟩
    dsimp only
    split
    · exact h1.setJournal h1.journal
    · exact h1.endFull k

theorem queueWaiting (h : s.Ok) (hq : s.journal.queue.length < 8) : (Machine.queueWaiting s).Ok := by
  unfold Machine.queueWaiting
  split
  next => exact h
  next p rest hw =>
    obtain ⟨hslots, hlen, hwait⟩ := h.journal
    rw [hw] at hwait
    have h1 := h.setJournal (x := { s.journal with waiting := rest }) ⟨hslots, hlen, hwait.of_cons⟩
    exact h1.enqueue hq p

theorem takeExportRead (h : s.Ok) (hl : s.port.responses.length < 8) (payload : List Byte) :
    (Machine.takeExportRead payload s).Ok := by
  unfold Machine.takeExportRead
  split
  · exact h.respond hl _ _
  · exact State.Ok.respond (by exact h.setPort h.port) (by exact hl) _ _

theorem offerHeld (h : s.Ok) (hl : s.port.responses.length < 8) (cls : Nat) (p : Producer) {j : Journal}
    (hj : j.ok) : (Machine.offer p (Machine.holdResponse cls (s.setJournal j))).Ok :=
  State.Ok.offer (State.Ok.holdResponse (h.setJournal hj) hl cls) p

theorem takeExportMark (h : s.Ok) (hl : s.port.responses.length < 8) (payload : List Byte) :
    (Machine.takeExportMark payload s).Ok := by
  have hraise : ∀ value clamped, (raiseMark value clamped s).Ok := fun _ _ => h.offerHeld hl _ _ h.journal
  unfold Machine.takeExportMark applyMark
  split
  · exact h.respond hl _ _
  · split
    · split
      · exact hraise _ _
      · exact h.respond hl _ _
    · split
      · exact h.respond hl _ _
      · exact hraise _ _

theorem takeNote (h : s.Ok) (hl : s.port.responses.length < 8) (payload : List Byte) :
    (Machine.takeNote payload s).Ok := by
  unfold Machine.takeNote
  split
  · exact h.respond hl _ _
  · exact h.offerHeld hl _ _ h.journal

theorem takeShutdown (h : s.Ok) (hl : s.port.responses.length < 8) (payload : List Byte) :
    (Machine.takeShutdown payload s).Ok := by
  have hbegin : (beginShutdown s).Ok :=
    State.Ok.holdResponse (by exact { h with }) (by exact hl) _
  unfold Machine.takeShutdown
  split
  · exact h.respond hl _ _
  · split
    · exact hbegin
    · exact h.respond hl _ _

theorem finishRecovery (h : s.Ok) : (Machine.finishRecovery s).Ok := by
  unfold Machine.finishRecovery
  split
  next => exact h
  next r _ =>
    have h1 : (s.setPosition { s.position with run := r.run }).Ok := h.setPosition h.position
    have h2 := State.Ok.offer (h1.setJournal (x := recovered s.journal r s.tables.activeGeneration) h.journal) .control
    have h3 : ∀ {u : State}, u.Ok → (exhaustedAtStart r u).Ok := fun hu => by
      unfold exhaustedAtStart
      split
      · exact hu.fullNotice _ _
      · exact hu
    have h4 := (h3 h2).setJournal (h3 h2).journal
    show (offerWaitingResolutions _).Ok
    unfold offerWaitingResolutions
    split
    · exact (h3 h2).setJournal (h3 h2).journal
    · exact State.Ok.offer (by exact (h3 h2).setJournal (h3 h2).journal) _

/-! ## CONFIG, QUERY and RESTART -/

theorem takeConfig (h : s.Ok) (hl : s.port.responses.length < 8) (payload : List Byte) :
    (Machine.takeConfig payload s).Ok := by
  unfold Machine.takeConfig
  split
  · exact h.respond hl _ _
  · exact State.Ok.flowStep (State.Ok.respond (h.setSettings (applyConfig_inRange h.settings _)) hl _ _)

theorem answerQuery (h : s.Ok) (hl : s.port.responses.length < 8) (content : State → List Byte) :
    (Machine.answerQuery content s).Ok := (h.holdResponse hl _).produce _ _

theorem plainQuery (h : s.Ok) (hl : s.port.responses.length < 8) (kind : Nat) (content : State → List Byte)
    (payload : List Byte) : (Machine.plainQuery kind content payload s).Ok := by
  unfold Machine.plainQuery
  split
  · exact h.answerQuery hl _
  · exact h.respond hl _ _

theorem takeMemoryQuery (h : s.Ok) (hl : s.port.responses.length < 8) (payload : List Byte) :
    (Machine.takeMemoryQuery payload s).Ok := by
  unfold Machine.takeMemoryQuery
  split
  · exact h.respond hl _ _
  · exact h.answerQuery hl _

end State.Ok

/-- R97: the end of an evaluation leaves the Evaluator IDLE, so what it held does not count. -/
theorem endEvaluation_eq (s : State) : endEvaluation s =
    if s.memory.clearDeferred then
      clearMemory (releasePin (s.evaluator.context.bind EvalContext.bank) (s.setEvaluator .idle))
    else releasePin (s.evaluator.context.bind EvalContext.bank) (s.setEvaluator .idle) := rfl

namespace State.Ok

variable {s : State}

theorem endEvaluation (h : (s.setEvaluator .idle).Ok) : (Machine.endEvaluation s).Ok := by
  rw [endEvaluation_eq]
  split
  · exact (h.releasePin _).clearMemory
  · exact h.releasePin _

theorem takeRestart (h : s.Ok) (hl : s.port.responses.length < 8) (payload : List Byte) :
    (Machine.takeRestart payload s).Ok := by
  have hset : (setRestarting (Machine.holdResponse clsRestart s)).Ok := (h.holdResponse hl _).setIntake h.intake
  unfold Machine.takeRestart
  split
  · unfold dropEvaluation
    split
    · exact hset
    · refine State.Ok.endEvaluation (State.Ok.setEvaluator (hset.setJournal ?_) (placeOk_idle _))
      exact ⟨h.journal.1, h.journal.2.1, h.journal.2.2.filter _⟩
  · exact h.respond hl _ _

/-! ## Evaluation -/

theorem setTables_pin (h : s.Ok) (n : Option Nat) : (s.setTables (s.tables.onBank Bank.pin n)).Ok := by
  refine h.setTables ?_
  cases n with
  | none => exact h.tables
  | some n => exact s.tables.ok_setBank h.tables n _ (s.tables.ok_bank h.tables n) id

theorem beginEvaluation (h : s.Ok) : (Machine.beginEvaluation s).Ok := by
  unfold Machine.beginEvaluation
  split
  next => exact h
  next p rest hq =>
    have hrest : rest.length ≤ 14 := by
      have := h.intake.1
      rw [hq, List.length_cons] at this
      omega
    have h1 : (s.setEvaluator (.evaluating (contextOf p s))).Ok := h.setEvaluator fun _ _ _ he => nomatch he
    exact State.Ok.setQueue (h1.setTables_pin s.tables.activeIndex) hrest

end State.Ok

/-- R113: a sighting put into a slot of its key. -/
theorem slotsOk_putAt {slots : List (Nat × Sighting)} (h : slotsOk slots = true) {i : Nat} {e : Sighting}
    (hi : i = primarySlot e.key ∨ i = alternateSlot e.key) : slotsOk (putAt slots i e) = true := by
  simp only [slotsOk, Bool.and_eq_true, List.all_eq_true] at h ⊢
  refine ⟨risingKeys_putAt _ _ _ h.1, fun x hx => ?_⟩
  rcases mem_putAt slots i e x hx with hx | rfl
  · exact h.2 x hx
  · simpa [inOwnSlot] using hi

theorem slotsOk_setTrip {slots : List (Nat × Sighting)} (h : slotsOk slots = true) (k : Key) (t : TripState) :
    slotsOk (setTrip slots k t) = true := by
  unfold setTrip
  split
  next => exact h
  next i e hfound =>
    obtain ⟨hi, hkey⟩ := findSighting_sound hfound
    refine slotsOk_putAt h ?_
    show i = primarySlot e.key ∨ i = alternateSlot e.key
    rw [hkey]
    exact hi

theorem slotsOk_lateTaken {slots : List (Nat × Sighting)} (h : slotsOk slots = true) (k : Key) :
    slotsOk (lateTaken slots k) = true := by
  unfold lateTaken
  split
  · exact h
  · exact slotsOk_setTrip h k _

/-- R117: an insertion is given a slot of its key. -/
theorem insertionSlot_own {slots : List (Nat × Sighting)} {k : Key} {i : Nat} (h : insertionSlot slots k = some i) :
    i = primarySlot k ∨ i = alternateSlot k := by
  unfold insertionSlot at h
  split at h
  · exact .inl (Option.some.inj h).symm
  · exact .inr (Option.some.inj h).symm
  · split at h
    · split at h
      · exact .inr (Option.some.inj h).symm
      · exact .inl (Option.some.inj h).symm
    · split at h
      · exact .inl (Option.some.inj h).symm
      · split at h
        · exact .inr (Option.some.inj h).symm
        · cases h

theorem slotsOk_remember {slots : List (Nat × Sighting)} (h : slotsOk slots = true) (window : Nat)
    (u : SightingUpdate) : slotsOk (remember slots window u).1 = true := by
  unfold remember
  split
  next i e hfound =>
    obtain ⟨hi, hkey⟩ := findSighting_sound hfound
    refine slotsOk_putAt h ?_
    show i = primarySlot e.key ∨ i = alternateSlot e.key
    rw [hkey]
    exact hi
  next =>
    split
    next i hslot => exact slotsOk_putAt h (insertionSlot_own hslot)
    next => exact h

theorem slotsOk_stage14 {m : MemoryView} (h : slotsOk m.slots = true) (p : Presentation) (s : Snapshot) (r : Ruling) :
    slotsOk (stage14 p s m r).1 = true := by
  unfold stage14
  split
  · exact slotsOk_remember h _ _
  · exact h

/-! ## The consume of a ruling -/

theorem stage11_consume {prod : ProductRec} {p : Presentation} {pr : Probe} {n : Nat} {given : Bool}
    (h : stage11 prod p pr n given = .ok true) : prod.kind = .carnet ∧ pr ≠ .found .taken ∧ pr ≠ .found .pending ∧ n < 4 := by
  unfold stage11 at h
  split at h
  · cases h
  next hkind =>
    split at h
    · cases h
    next hpr =>
      split at h
      · cases h
      · split at h
        · cases h
        next hn =>
          obtain ⟨htaken, hpending⟩ := not_or.mp hpr
          exact ⟨not_not.mp hkind, htaken, hpending, by omega⟩

theorem stage12_consume {b : Bank} {prod : ProductRec} {p : Presentation} {e : EffPos} {recheck consume flag : Bool}
    (h : (stage12 b prod p e recheck consume flag).consume = true) : consume = true := by
  unfold stage12 at h
  split at h
  · cases h
  · split at h <;> exact h

theorem stages9to12_consume {b : Bank} {prod : ProductRec} {p : Presentation} {s : Snapshot} {pr : Probe} {n : Nat}
    {given : Bool} (h : (stages9to12 b prod p s pr n given).consume = true) : stage11 prod p pr n given = .ok true := by
  unfold stages9to12 at h
  split at h
  · cases h
  · split at h
    · cases h
    · split at h
      · cases h
      next consume h11 => rw [h11, stage12_consume h]

theorem stages8to12_consume {b : Bank} {prod : ProductRec} {p : Presentation} {s : Snapshot} {pr : Probe} {n : Nat}
    {given : Bool} (h : (stages8to12 b prod p s pr n given).consume = true) : stage11 prod p pr n given = .ok true := by
  unfold stages8to12 at h
  split at h
  · cases h
  · exact stages9to12_consume h
  · exact stages9to12_consume h

/-- R89: a consume needs a carnet whose trip is neither TAKEN nor PENDING, and a place on the pending-consume list. -/
theorem stages1to12_consume {b : Option Bank} {p : Presentation} {s : Snapshot} {m : MemoryView}
    (h : (stages1to12 b p s m).consume = true) : ∃ bank prod pr given, stages1to6 b p = .ok (bank, prod)
      ∧ pr = probe m.slots p.key m.window s.coach s.now ∧ stage11 prod p pr m.pendingCount given = .ok true := by
  unfold stages1to12 at h
  split at h
  · cases h
  next bank prod h6 =>
    split at h
    · cases h
    next hpr => exact ⟨bank, prod, _, _, h6, hpr.symm, stages8to12_consume h⟩
    next hpr => exact ⟨bank, prod, _, _, h6, hpr.symm, stages8to12_consume h⟩

theorem graceMerge_consume (r : Ruling) : (graceMerge r).consume = r.consume := by
  unfold graceMerge
  split
  · rfl
  · split <;> rfl

/-- R89: a verdict with consume YES finds a place on the pending-consume list. -/
theorem workChecks_consume {b : Option Bank} {c : EvalContext} {m : MemoryView}
    (h : (workChecks b c m).1.consume = true) : m.pendingCount < 4 := by
  have hr : (stages1to12 b c.pres c.snap m).consume = true := by
    rw [← graceMerge_consume]
    exact (Bool.and_eq_true_iff.mp h).1
  obtain ⟨_, prod, pr, given, -, -, h11⟩ := stages1to12_consume hr
  obtain ⟨-, -, -, hn⟩ := stage11_consume h11
  exact hn

namespace State.Ok

variable {s : State}

theorem completeChecks (h : s.Ok) : (Machine.completeChecks s).Ok := by
  unfold Machine.completeChecks
  split
  next => exact h
  next c hw =>
    have hidle : placeOk s.evaluator { s.memory with slots := (checkWork c s).2 } := h.place
    obtain ⟨hslots, hlists⟩ := h.memory
    refine State.Ok.offer (State.Ok.setEvaluator (by exact h.setMemory ⟨slotsOk_stage14 hslots _ _ _, hlists⟩ hidle) ?_) _
    rintro _ _ _ ⟨⟩ hconsume
    exact workChecks_consume hconsume

theorem handTap (h : s.Ok) (c : EvalContext) (v : Verdict) : (Machine.handTap c v s).Ok := by
  unfold Machine.handTap
  split
  · exact h.addTap _
  · exact h

end State.Ok

theorem queuePattern_length (p : Pattern) {q : List Pattern} (h : q.length ≤ 4) : (queuePattern p q).length ≤ 4 := by
  unfold queuePattern
  split
  next hlt =>
    simp only [patternLimit] at hlt
    simp only [List.length_append, List.length_cons, List.length_nil]
    omega
  next =>
    split
    next hany =>
      obtain ⟨w, hw, hlower⟩ := List.any_eq_true.mp hany
      have hpos := List.length_pos_of_mem hw
      have := List.length_eraseP_of_mem (p := fun w => decide (w.urgency < p.urgency)) hw hlower
      simp only [List.length_append, List.length_cons, List.length_nil]
      omega
    next => exact h

theorem Annunciator.take_queue_length {a : Annunciator} (h : a.queue.length ≤ 4) (now : Nat) (p : Pattern) :
    (a.take now p).queue.length ≤ 4 := by
  unfold Annunciator.take
  split
  · exact h
  · split
    · exact h
    · exact queuePattern_length p h

theorem Annunciator.complete_queue_length {a : Annunciator} (h : a.queue.length ≤ 4) (now : Nat) :
    (a.complete now).queue.length ≤ 4 := by
  unfold Annunciator.complete
  split
  · exact h
  · exact (List.length_eraseP_le).trans h

namespace State.Ok

variable {s : State}

theorem requestPattern (h : s.Ok) (cls : VClass) : (Machine.requestPattern cls s).Ok :=
  h.setAnnunciator (Annunciator.take_queue_length h.patterns _ _)

end State.Ok

/-- R96, R97: a consume and the end of its evaluation, the verdict having had its place. -/
theorem State.Ok.pendConsume {s : State} (h : s.Ok) (c : EvalContext) (v : Verdict)
    (hplace : v.consume = true → s.memory.pendingList.length < 4) :
    ((Machine.pendConsume c v s).setEvaluator .idle).Ok := by
  unfold Machine.pendConsume
  split
  next hv =>
    obtain ⟨hslots, -, hres⟩ := h.memory
    refine State.Ok.setMemory (h.setEvaluator (placeOk_idle _)) ⟨slotsOk_setTrip hslots _ _, ?_, hres⟩ (placeOk_idle _)
    have := hplace hv
    show (s.memory.pendingList ++ [_]).length ≤ 4
    simp only [List.length_append, List.length_cons, List.length_nil]
    omega
  next => exact h.setEvaluator (placeOk_idle _)

theorem handTap_memory (c : EvalContext) (v : Verdict) (s : State) : (handTap c v s).memory = s.memory := by
  unfold handTap
  split <;> rfl

theorem State.Ok.issueVerdict {s : State} (h : s.Ok) : (Machine.issueVerdict s).Ok := by
  unfold Machine.issueVerdict
  split
  next => exact h
  next c v hv =>
    have hconsume : v.consume = true → s.memory.pendingList.length < 4 := fun hc => by
      unfold verdictToIssue at hv
      split at hv
      next heq =>
        split at hv
        · obtain ⟨rfl, rfl⟩ := Prod.mk.inj (Option.some.inj hv)
          exact h.place _ _ _ heq hc
        · cases hv
      · cases hv
      · cases hv
    have h1 : (handVerdict v s).Ok := h.setPort h.port
    refine State.Ok.endEvaluation (State.Ok.pendConsume ((h1.handTap c v).requestPattern _) c v ?_)
    show v.consume = true → (Machine.handTap c v (handVerdict v s)).memory.pendingList.length < 4
    rw [handTap_memory]
    exact hconsume

/-! ## Trips -/

/-- A change of the slots that keeps them canonical, with the list no longer than it was. -/
theorem State.Ok.setSlots {s : State} (h : s.Ok) {slots : List (Nat × Sighting)} {l : List PendingConsume}
    (hslots : slotsOk slots = true) (hl : l.length ≤ s.memory.pendingList.length) :
    (s.setMemory { s.memory with slots := slots, pendingList := l }).Ok := by
  obtain ⟨-, hlist, hres⟩ := h.memory
  exact h.setMemory ⟨hslots, hl.trans hlist, hres⟩ (placeOk_same h.place (fun c v w hv => ⟨c, v, w, hv, rfl⟩) hl)

theorem State.Ok.takeReport {s : State} (h : s.Ok) (payload : List Byte) : (Machine.takeReport payload s).Ok := by
  unfold Machine.takeReport
  split
  · exact h
  · unfold applyReport
    split
    · exact State.Ok.resolve (h.setSlots (slotsOk_setTrip h.memory.1 _ _) (List.length_eraseP_le)) _ _ _
    · split
      · exact State.Ok.resolve (h.setSlots (slotsOk_lateTaken h.memory.1 _) le_rfl) _ _ _
      · exact h

theorem State.Ok.expireWindow {s : State} (h : s.Ok) : (Machine.expireWindow s).Ok := by
  unfold Machine.expireWindow
  split
  next => exact h
  next p rest hl =>
    have h1 := h.setTimeBase (max s.timeBase p.expiry)
    refine State.Ok.resolve (h1.setSlots (slotsOk_setTrip h.memory.1 _ _) ?_) _ _ _
    show rest.length ≤ s.memory.pendingList.length
    rw [hl, List.length_cons]
    omega

/-! ## The Annunciator -/

theorem State.Ok.completePattern {s : State} (h : s.Ok) : (Machine.completePattern s).Ok := by
  unfold Machine.completePattern
  split
  · exact h
  · exact (h.setTimeBase _).setAnnunciator (Annunciator.complete_queue_length h.patterns _)

theorem State.Ok.endNote {s : State} (h : s.Ok) : (Machine.endNote s).Ok := by
  unfold Machine.endNote
  split
  · exact h
  · split
    · exact h
    · exact (h.setTimeBase _).setAnnunciator h.patterns

/-! ## Every command -/

theorem frameCheckFailed_endsOk {s : State} (h : s.Ok) (l : Link) (bytes : List Byte) :
    EndsOk (execFrameCheckFailed l bytes s) := by
  unfold execFrameCheckFailed
  split
  · exact endsOk_next h
  · exact act_endsOk h _ (h.setRx _ _)

theorem controlFrameReceived_endsOk {s : State} (h : s.Ok) (bytes : List Byte) :
    EndsOk (execControlFrameReceived bytes s) := by
  unfold execControlFrameReceived
  split
  · exact endsOk_next h
  · exact act_endsOk h _ ((h.setRx .terminal _).takeControl _ _)

theorem waitingEntryQueued_endsOk {s : State} (h : s.Ok) : EndsOk (execWaitingEntryQueued s) := by
  unfold execWaitingEntryQueued act
  split
  next hocc =>
    have hq : s.journal.queue.length < 8 := by
      simp only [placeForWaiting, writeQueueLimit, Bool.and_eq_true] at hocc
      exact of_decide_eq_true hocc.2.1.1.2
    exact endsOk_next (h.queueWaiting hq).settle
  next => exact endsOk_next h

theorem drainEnd_endsOk {s : State} (h : s.Ok) : EndsOk (execDrainEnd s) := by
  refine act_endsOk h _ (h.setPort ⟨?_, h.port.2⟩)
  show (s.port.responses.map endedResponse).length ≤ 8
  rw [List.length_map]
  exact h.port.1

/-- Every command keeps the bounds. -/
theorem exec_endsOk (c : Instr) {s : State} (h : s.Ok) : EndsOk (exec c s) := by
  cases c with
  | powerOn low => exact powerOn_endsOk h low
  | powerLoss => exact powerLoss_endsOk h
  | recoveryReadDone => exact act_endsOk h _ (by exact h.setJournal h.journal)
  | recoveryErase =>
    refine act_endsOk h _ ?_
    unfold startRecoveryErase
    split
    · exact h
    · exact h.setJournal h.journal
  | startedEntry => exact act_endsOk h _ (by exact h.finishRecovery)
  | supplyLowAsserted =>
    exact act_endsOk (f := fun s => notice .supplySafe (setSafe true s)) h _ ((h.setSafe true).notice _)
  | supplyLowDeasserted =>
    exact act_endsOk (f := fun s => notice .supplyNormal (setSafe false s)) h _ ((h.setSafe false).notice _)
  | presentation bytes => exact onReaderFrame_endsOk h _ _ fun p _ hu => hu.takePresentation p
  | consumeReport bytes => exact onReaderFrame_endsOk h _ _ fun p _ hu => hu.takeReport p
  | frameCheckFailed l bytes => exact frameCheckFailed_endsOk h l bytes
  | controlFrameReceived bytes => exact controlFrameReceived_endsOk h bytes
  | present => exact dispatch_endsOk h _ _ fun p _ hu hl => hu.takeKeyed hl p
  | intakeFlush => exact dispatch_endsOk h _ _ fun p _ hu hl => hu.flushQueue hl p
  | time => exact dispatch_endsOk h _ _ fun p _ hu hl => hu.takeTime hl p
  | depart => exact dispatch_endsOk h _ _ fun p _ hu hl => hu.takeDepart hl p
  | arrive => exact dispatch_endsOk h _ _ fun p _ hu hl => hu.takeArrive hl p
  | switch => exact dispatch_endsOk h _ _ fun p _ hu hl => hu.takeSwitch hl p
  | coach => exact dispatch_endsOk h _ _ fun p _ hu hl => hu.takeCoach hl p
  | runStart => exact dispatch_endsOk h _ _ fun p _ hu hl => hu.takeRunStart hl p
  | loadOpen => exact dispatch_endsOk h _ _ fun p _ hu hl => hu.takeOpen hl p
  | stagingEraseStart => exact act_endsOk h _ (by exact h.startErase)
  | tableSectorEraseDone => exact act_endsOk h _ (by exact h.finishErase)
  | headerProgramDone => exact act_endsOk h _ (by exact h.finishHeader)
  | loadRecord => exact dispatch_endsOk h _ _ fun p _ hu hl => hu.takeRecord hl p
  | recordProgramDone => exact act_endsOk h _ (by exact h.finishRecords)
  | loadClose => exact dispatch_endsOk h _ _ fun p _ hu hl => hu.takeClose hl p
  | contentCheckDone => exact act_endsOk h _ (by exact h.finishCheck)
  | loadCommitNow => exact dispatchWhen_endsOk h _ _ commitModeNow fun p _ hu hl => hu.takeCommitNow hl p
  | loadCommitTime => exact dispatchWhen_endsOk h _ _ (fun p => !commitModeNow p) fun p _ hu hl => hu.takeCommitTime hl p
  | commitBegin => exact act_endsOk h _ (by exact h.startMark)
  | commitMarkDone => exact act_endsOk h _ (by exact h.finishCommit)
  | loadAbandon => exact dispatch_endsOk h _ _ fun p _ hu hl => hu.takeAbandon hl p
  | exportRead => exact dispatch_endsOk h _ _ fun p _ hu hl => hu.takeExportRead hl p
  | exportMark => exact dispatch_endsOk h _ _ fun p _ hu hl => hu.takeExportMark hl p
  | note => exact dispatch_endsOk h _ _ fun p _ hu hl => hu.takeNote hl p
  | shutdown => exact dispatch_endsOk h _ _ fun p _ hu hl => hu.takeShutdown hl p
  | closedEntry =>
    have h1 := h.setJournal (x := { s.journal with control := some .closed }) h.journal
    exact act_endsOk (f := fun s => offer .control (s.setJournal { s.journal with control := some .closed })) h _
      (h1.offer .control)
  | config => exact dispatch_endsOk h _ _ fun p _ hu hl => hu.takeConfig hl p
  | queryStatus =>
    exact dispatchWhen_endsOk h _ _ (fun p => queryRow p == 1) fun p _ hu hl => hu.plainQuery hl 1 statusBytes p
  | queryDirectory =>
    exact dispatchWhen_endsOk h _ _ (fun p => queryRow p == 2) fun p _ hu hl => hu.plainQuery hl 2 directoryBytes p
  | queryHistory =>
    exact dispatchWhen_endsOk h _ _ (fun p => queryRow p == 3) fun p _ hu hl => hu.plainQuery hl 3 historyBytes p
  | queryMemory => exact dispatchWhen_endsOk h _ _ (fun p => queryRow p == 4) fun p _ hu hl => hu.takeMemoryQuery hl p
  | restart => exact dispatch_endsOk h _ _ fun p _ hu hl => hu.takeRestart hl p
  | drainEnd => exact drainEnd_endsOk h
  | warmRestartEffect => exact act_endsOk h _ (by exact h.warmRestart)
  | minuteTick => exact act_endsOk h _ (by exact h.minuteTick)
  | evaluationBegin => exact act_endsOk h _ (by exact h.beginEvaluation)
  | checkCompletion => exact act_endsOk h _ (by exact h.completeChecks)
  | waitingEntryQueued => exact waitingEntryQueued_endsOk h
  | verdictIssue => exact act_endsOk h _ (by exact h.issueVerdict)
  | entryProgramStart => exact act_endsOk h _ (by exact h.setJournal h.journal)
  | entryProgramDone => exact act_endsOk h _ (by exact h.finishProgram)
  | headMove => exact act_endsOk h _ (by exact h.moveHead)
  | journalEraseStart => exact act_endsOk h _ (by exact h.setJournal h.journal)
  | journalSectorEraseDone => exact act_endsOk h _ (by exact h.finishJournalErase)
  | consumeWindowExpiry => exact act_endsOk h _ (by exact h.expireWindow)
  | patternCompletion => exact act_endsOk h _ (by exact h.completePattern)
  | readerTxDone => exact act_endsOk h _ (by exact h.setReader _)
  | terminalTxDone => exact act_endsOk h _ (by exact h.sent)
  | noteEnd => exact act_endsOk h _ (by exact h.endNote)

theorem State.Ok.idle {s : State} (h : s.Ok) : (Machine.idle s).Ok := by
  unfold Machine.idle
  split
  · exact h.setTimeBase _
  · exact h

/-- Settles O5: idling moves the time base alone, and every command keeps the bounds. -/
theorem stepKeepsBounds : Obligations.StepKeepsBounds := by
  intro s t hb hstep
  have h : s.Ok := (bounded_iff s).mp hb
  refine (bounded_iff t).mpr ?_
  unfold step at hstep
  split at hstep
  next =>
    cases hstep
    exact h.idle
  next c rest _ => exact exec_endsOk c (h.setPending rest) t hstep

end Sys2Proof.Machine
end

section
/-! SUPPORT. What every command carries over: the queue of commands, and the tags held (R5). -/

namespace Sys2Proof.Machine

/-! ## The tag given (R5) -/

/-- Of 256 tags one at least is not held when 18 at most are. -/
theorem exists_tag_not_held (counter : Nat) {held : List Nat} (h : held.length ≤ 18) :
    ∃ i < 256, (counter + i) % 256 ∉ held := by
  by_contra hall
  push Not at hall
  have hnodup : ((List.range 256).map fun i => (counter + i) % 256).Nodup := by
    refine List.Nodup.map_on (fun i hi j hj hij => ?_) List.nodup_range
    rw [List.mem_range] at hi hj
    omega
  have hsub : ((List.range 256).map fun i => (counter + i) % 256) ⊆ held := by
    intro t ht
    obtain ⟨i, hi, rfl⟩ := List.mem_map.mp ht
    exact hall i (List.mem_range.mp hi)
  have hlen := (List.subperm_of_subset hnodup hsub).length_le
  rw [List.length_map, List.length_range] at hlen
  omega

/-- R5: the tag given is the first free one from the counter upward. -/
theorem freeTag_first_free (counter : Nat) {held : List Nat} (h : held.length ≤ 18) : ∃ n, n < 256
    ∧ freeTag counter held = (counter + n) % 256 ∧ (counter + n) % 256 ∉ held
    ∧ ∀ i < n, (counter + i) % 256 ∈ held := by
  obtain ⟨j, hj, hfree⟩ := exists_tag_not_held counter h
  cases hfind : (List.range 256).find? fun i => !held.contains ((counter + i) % 256) with
  | none =>
    have := List.find?_eq_none.mp hfind j (List.mem_range.mpr hj)
    simp [hfree] at this
  | some n =>
    obtain ⟨hn, hmem, hbefore⟩ := List.find?_range_eq_some.mp hfind
    refine ⟨n, List.mem_range.mp hmem, ?_, by simpa using hn, fun i hi => by simpa using hbefore i hi⟩
    rw [freeTag, List.find?_map]
    show (((List.range 256).find? fun i => !held.contains ((counter + i) % 256)).map _).getD counter = _
    rw [hfind]
    rfl

/-- Settles O14: of 256 tags one is free, and the search stops at the first. -/
theorem tagIsFirstFree : Obligations.TagIsFirstFree := fun counter _ _ h => freeTag_first_free counter h

theorem heldTags_length {s : State} (hlist : s.memory.pendingList.length ≤ 4) (hroom : s.intake.queue.length < 14) :
    (heldTags s).length ≤ 18 := by
  have hctx : (s.evaluator.context.map fun x : EvalContext => x.pres.tag).toList.length ≤ 1 := by
    cases s.evaluator.context <;> simp
  simp only [heldTags, List.length_append, List.length_map]
  omega

theorem nextTag_not_held {s : State} (h : s.memory.pendingList.length ≤ 4) (hroom : s.intake.queue.length < 14) :
    nextTag s ∉ heldTags s := by
  obtain ⟨n, -, htag, hfree, -⟩ := freeTag_first_free s.intake.tagCounter (heldTags_length h hroom)
  rw [nextTag, htag]
  exact hfree

/-! ## What is carried over -/

/-- The verdict that waits carries the tag of its presentation. -/
def Evaluator.tagOk (e : Evaluator) : Prop := ∀ c v w, e = .awaiting c v w → v.tag = c.pres.tag

theorem Evaluator.tagOk_of_same {e f : Evaluator} (hc : f.context = e.context) (hv : f.verdictTag = e.verdictTag)
    (h : e.tagOk) : f.tagOk := by
  rintro c v w rfl
  cases e with
  | idle => simp [Evaluator.context] at hc
  | evaluating c' => simp [Evaluator.verdictTag] at hv
  | awaiting c' v' w' =>
    obtain rfl : c = c' := Option.some.inj hc
    exact (Option.some.inj hv).trans (h c v' w' rfl)

/-- The queue of commands is as it was, and no tag is held that was not. -/
structure Carries (s t : State) : Prop where
  pending : t.pending = s.pending
  tags : s.evaluator.tagOk → t.evaluator.tagOk ∧ (heldTags t).Subperm (heldTags s)

namespace Carries

variable {s t u : State}

theorem refl (s : State) : Carries s s := ⟨rfl, fun h => ⟨h, List.Subperm.refl _⟩⟩

theorem trans (h : Carries s t) (k : Carries t u) : Carries s u where
  pending := k.pending.trans h.pending
  tags hs := by
    obtain ⟨ht, hheld⟩ := h.tags hs
    obtain ⟨hu, hheld'⟩ := k.tags ht
    exact ⟨hu, hheld'.trans hheld⟩

theorem tagsDistinct (h : Carries s t) (hs : s.tagsDistinct) : t.tagsDistinct := by
  obtain ⟨hnodup, htag⟩ := hs
  obtain ⟨ht, l, hperm, hsub⟩ := h.tags htag
  exact ⟨hperm.nodup_iff.mp (hnodup.sublist hsub), ht⟩

theorem of_sublists (hpend : t.pending = s.pending) (hq : t.intake.queue.Sublist s.intake.queue)
    (hl : t.memory.pendingList.Sublist s.memory.pendingList)
    (hc : t.evaluator = .idle ∨ (t.evaluator.context = s.evaluator.context
      ∧ t.evaluator.verdictTag = s.evaluator.verdictTag)) : Carries s t := by
  refine ⟨hpend, fun htag => ⟨?_, List.Sublist.subperm ?_⟩⟩
  · rcases hc with hidle | ⟨hctx, hv⟩
    · rw [hidle]
      exact fun _ _ _ h => nomatch h
    · exact Evaluator.tagOk_of_same hctx hv htag
  · refine ((hq.map _).append ?_).append (hl.map _)
    rcases hc with hidle | ⟨hctx, -⟩
    · rw [hidle]
      exact List.nil_sublist _
    · rw [hctx]

/-- A change apart from the commands, the queue, the Evaluator and the pending-consume list. -/
theorem of_same (hpend : t.pending = s.pending) (hq : t.intake.queue = s.intake.queue)
    (hl : t.memory.pendingList = s.memory.pendingList) (he : t.evaluator = s.evaluator) : Carries s t :=
  of_sublists hpend (hq ▸ List.Sublist.refl _) (hl ▸ List.Sublist.refl _) (.inr ⟨by rw [he], by rw [he]⟩)

theorem setReader (x : ReaderPort) (s : State) : Carries s (s.setReader x) := of_same rfl rfl rfl rfl
theorem setTables (x : TableStore) (s : State) : Carries s (s.setTables x) := of_same rfl rfl rfl rfl
theorem setPosition (x : PositionUnit) (s : State) : Carries s (s.setPosition x) := of_same rfl rfl rfl rfl
theorem setSettings (x : Settings) (s : State) : Carries s (s.setSettings x) := of_same rfl rfl rfl rfl
theorem setTimeBase (x : Nat) (s : State) : Carries s (s.setTimeBase x) := of_same rfl rfl rfl rfl
theorem setAnnunciator (x : Annunciator) (s : State) : Carries s (s.setAnnunciator x) := of_same rfl rfl rfl rfl
theorem setPort (x : TerminalPort) (s : State) : Carries s (s.setPort x) := of_same rfl rfl rfl rfl
theorem setJournal (x : Journal) (s : State) : Carries s (s.setJournal x) := of_same rfl rfl rfl rfl

end Carries

theorem Told.carries {s t : State} (h : Told s t) : Carries s t :=
  Carries.of_sublists h.pending (h.intake ▸ List.Sublist.refl _) (h.pendingList ▸ List.Sublist.refl _)
    (.inr ⟨h.context, h.verdictTag⟩)

namespace Carries

variable {s t u : State}

theorem respond (cls : Nat) (r : Reply) (s : State) : Carries s (Machine.respond cls r s) := (Told.respond cls r s).carries

theorem settle (s : State) : Carries s (Machine.settle s) := by
  obtain ⟨r, n, d, st, b, f, h, -⟩ := settle_frame s
  rw [h]
  exact of_same rfl rfl rfl rfl

/-! ## The form of a command -/

theorem act {occasion : Bool} {f : State → State} (hf : occasion = true → Carries s (f s)) :
    ∃ t, Machine.act occasion f s = .next t ∧ Carries s t := by
  refine ⟨_, rfl, ?_⟩
  split
  next h => exact (hf (Bool.and_eq_true_iff.mp h).2).trans (settle _)
  next => exact refl s

theorem dispatchWhen {cls : Nat} {owner : Bool} {takes : List Byte → Bool} {f : List Byte → State → State}
    (hf : ∀ payload u, Carries u (f payload u)) :
    ∃ t, Machine.dispatchWhen cls owner takes f s = .next t ∧ Carries s t := by
  unfold Machine.dispatchWhen
  split
  · exact ⟨s, rfl, refl s⟩
  · exact act fun _ => (setPort _ s).trans (hf _ (takeFrame s))

theorem dispatch {cls : Nat} {owner : Bool} {f : List Byte → State → State}
    (hf : ∀ payload u, Carries u (f payload u)) :
    ∃ t, Machine.dispatch cls owner f s = .next t ∧ Carries s t := dispatchWhen hf

/-! ## Intake -/

theorem emptyQueue (why : DiscardReason) (s : State) : Carries s (Machine.emptyQueue why s) := by
  rw [Machine.emptyQueue, discardAll_eq]
  exact of_sublists rfl (List.nil_sublist _) (List.Sublist.refl _) (.inr ⟨rfl, rfl⟩)

theorem flushQueue (payload : List Byte) (s : State) : Carries s (Machine.flushQueue payload s) := by
  unfold Machine.flushQueue
  split
  · exact (respond _ _ s).trans (emptyQueue _ _)
  · exact respond _ _ s

/-! ## The clock and the position -/

theorem applyTime (t : Time) (s : State) : Carries s (Machine.applyTime t s) := by
  obtain ⟨_, _, _, _, _, _, _, _, _, h⟩ := applyTime_frame t s
  rw [h]
  exact of_same rfl rfl rfl rfl

theorem takeTime (payload : List Byte) (s : State) : Carries s (Machine.takeTime payload s) := by
  unfold Machine.takeTime
  split
  · exact respond _ _ s
  · exact (applyTime _ s).trans (respond _ _ _)

theorem moveTo (pos : PosState) (route : Nat) (s : State) : Carries s (Machine.moveTo pos route s) := by
  unfold Machine.moveTo
  split <;> exact setPosition _ s

theorem pushDeparture (d : Departure) (s : State) : Carries s (Machine.pushDeparture d s) := by
  unfold Machine.pushDeparture
  split <;> exact setPosition _ s

theorem departed (r : Report) (s : State) : Carries s (Machine.departed r s) :=
  ((moveTo _ _ s).trans (pushDeparture _ _)).trans
    ((setPosition _ _).trans ((Told.holdResponse _ _).trans (Told.offer _ _)).carries)

theorem checkDepart (r : Report) (s : State) : Carries s (Machine.checkDepart r s) := by
  unfold Machine.checkDepart
  split
  · exact respond _ _ s
  · split
    · exact departed r s
    · exact respond _ _ s

theorem checkArrive (r : Report) (s : State) : Carries s (Machine.checkArrive r s) := by
  unfold Machine.checkArrive
  split
  · exact respond _ _ s
  · split
    · exact (moveTo _ _ s).trans (respond _ _ _)
    · exact respond _ _ s

theorem checkSwitch (r : Report) (s : State) : Carries s (Machine.checkSwitch r s) := by
  unfold Machine.checkSwitch
  split
  · exact respond _ _ s
  · exact (setPosition _ s).trans (respond _ _ _)

theorem takeDepart (payload : List Byte) (s : State) : Carries s (Machine.takeDepart payload s) := by
  unfold Machine.takeDepart
  split
  · exact respond _ _ s
  · exact (applyTime _ s).trans (checkDepart _ _)

theorem takeArrive (payload : List Byte) (s : State) : Carries s (Machine.takeArrive payload s) := by
  unfold Machine.takeArrive
  split
  · exact respond _ _ s
  · exact (applyTime _ s).trans (checkArrive _ _)

theorem takeSwitch (payload : List Byte) (s : State) : Carries s (Machine.takeSwitch payload s) := by
  unfold Machine.takeSwitch
  split
  · exact respond _ _ s
  · exact (applyTime _ s).trans (checkSwitch _ _)

theorem takeCoach (payload : List Byte) (s : State) : Carries s (Machine.takeCoach payload s) := by
  unfold Machine.takeCoach
  split
  · exact respond _ _ s
  · split
    · exact (setPosition _ s).trans (respond _ _ _)
    · exact respond _ _ s

theorem clearMemory (s : State) : Carries s (Machine.clearMemory s) := by
  rw [Machine.clearMemory, clearedNotices_eq]
  exact of_sublists rfl (List.Sublist.refl _) (List.nil_sublist _) (.inr ⟨rfl, rfl⟩)

theorem clearOrDefer (s : State) : Carries s (Machine.clearOrDefer s) := by
  unfold Machine.clearOrDefer
  split
  · exact clearMemory s
  · exact of_same rfl rfl rfl rfl

theorem startRun (run : Nat) (s : State) : Carries s (Machine.startRun run s) :=
  (Told.holdResponse _ s).carries.trans ((setPosition _ _).trans ((emptyQueue _ _).trans
    ((clearOrDefer _).trans (Told.offer _ _).carries)))

theorem takeRunStart (payload : List Byte) (s : State) : Carries s (Machine.takeRunStart payload s) := by
  unfold Machine.takeRunStart
  split
  · exact respond _ _ s
  · split
    · exact respond _ _ s
    · exact startRun _ s

theorem minuteTick (s : State) : Carries s (Machine.minuteTick s) := by
  have h : Carries s ((s.setTimeBase (max s.timeBase s.nextTick)).setNextTick (s.nextTick + minuteMs)) :=
    of_same rfl rfl rfl rfl
  unfold Machine.minuteTick tickClock
  split
  · exact h.trans (setPosition _ _)
  · split
    · rw [clockChanged_eq]
      exact h.trans ((setPosition _ _).trans (setTables _ _))
    · exact h

/-! ## The tables -/

theorem takeOpen (payload : List Byte) (s : State) : Carries s (Machine.takeOpen payload s) := by
  unfold Machine.takeOpen checkManifest
  split
  · exact respond _ _ s
  · split
    · split
      · exact respond _ _ s
      · exact (setTables _ s).trans (Told.holdResponse _ _).carries
    · exact respond _ _ s

theorem startErase (s : State) : Carries s (Machine.startErase s) := by
  unfold Machine.startErase
  split
  · exact setTables _ s
  · exact refl s

theorem abandonOpen (s : State) : Carries s (Machine.abandonOpen s) := (setTables _ s).trans (setPort _ _)
theorem abandonNow (s : State) : Carries s (Machine.abandonNow s) := (abandonOpen s).trans (setPort _ _)

theorem finishErase (s : State) : Carries s (Machine.finishErase s) := by
  unfold Machine.finishErase
  split
  next => exact refl s
  next n k _ =>
    have h : Carries s (sectorErased n k s) := setTables _ s
    refine h.trans ?_
    unfold afterErase startHeader
    split
    · exact abandonNow _
    · split
      · split
        · exact setTables _ _
        · exact refl _
      · exact startErase _

theorem finishHeader (s : State) : Carries s (Machine.finishHeader s) := by
  unfold Machine.finishHeader
  split
  next => exact refl s
  next n _ =>
    have h : Carries s (headerProgrammed n s) := setTables _ s
    refine h.trans ?_
    dsimp only
    split
    · exact abandonNow _
    · exact (setTables _ _).trans (setPort _ _)

theorem inLoading (cls : Nat) {f : State → State} (hf : Carries s (f s)) : Carries s (Machine.inLoading cls f s) := by
  unfold Machine.inLoading
  cases s.tables.engineNow with
  | loading => exact hf
  | _ => exact respond _ _ s

theorem takeRecord (payload : List Byte) (s : State) : Carries s (Machine.takeRecord payload s) := by
  unfold Machine.takeRecord
  split
  · exact respond _ _ s
  · refine inLoading _ ?_
    unfold loadRecords compareRecords
    split
    · exact respond _ _ s
    · split
      · exact respond _ _ s
      · dsimp only
        split
        · exact respond _ _ s
        · split
          · exact respond _ _ s
          · exact (setTables _ s).trans (Told.holdResponse _ _).carries

theorem finishRecords (s : State) : Carries s (Machine.finishRecords s) := by
  unfold Machine.finishRecords
  split
  · split
    · exact refl s
    · exact (setTables _ s).trans (setPort _ _)
  · exact refl s

theorem takeClose (payload : List Byte) (s : State) : Carries s (Machine.takeClose payload s) := by
  unfold Machine.takeClose
  split
  · refine inLoading _ ?_
    unfold closeLoad
    split
    · exact respond _ _ s
    · split
      · exact respond _ _ s
      · exact (setTables _ s).trans (Told.holdResponse _ _).carries
  · exact respond _ _ s

theorem finishCheck (s : State) : Carries s (Machine.finishCheck s) := by
  unfold Machine.finishCheck
  split <;> exact (setTables _ s).trans (setPort _ _)

theorem commitAtOnce (s : State) : Carries s (Machine.commitAtOnce s) :=
  (Told.holdResponse _ s).carries.trans (setTables _ _)

theorem takeCommitNow (payload : List Byte) (s : State) : Carries s (Machine.takeCommitNow payload s) := by
  unfold Machine.takeCommitNow
  split
  · exact respond _ _ s
  · split
    · exact commitAtOnce s
    · exact respond _ _ s

theorem takeCommitTime (payload : List Byte) (s : State) : Carries s (Machine.takeCommitTime payload s) := by
  unfold Machine.takeCommitTime
  split
  · exact respond _ _ s
  · split
    · exact respond _ _ s
    · split
      · exact commitAtOnce s
      · exact (setTables _ s).trans (respond _ _ _)

theorem startMark (s : State) : Carries s (Machine.startMark s) := by
  unfold Machine.startMark
  split
  · exact refl s
  · exact setTables _ s

theorem checkPosition (s : State) : Carries s (Machine.checkPosition s) := by
  unfold Machine.checkPosition
  split
  · split
    · exact (setPosition _ s).trans (setPort _ _)
    · exact refl s
  · exact refl s

theorem finishCommit (s : State) : Carries s (Machine.finishCommit s) := by
  unfold Machine.finishCommit
  split
  · exact refl s
  · exact (setTables _ s).trans ((Told.offer _ _).carries.trans ((setPort _ _).trans (checkPosition _)))

theorem takeAbandon (payload : List Byte) (s : State) : Carries s (Machine.takeAbandon payload s) := by
  have hatOnce : Carries s (abandonAtOnce s) := (setTables _ s).trans (respond _ _ _)
  unfold Machine.takeAbandon abandonLoad
  split
  · split
    · exact respond _ _ s
    · exact respond _ _ s
    · split
      · exact (abandonOpen s).trans (respond _ _ _)
      · exact (setTables _ s).trans (Told.holdResponse _ _).carries
    all_goals exact hatOnce
  · exact respond _ _ s

/-! ## The Journal -/

theorem takeShutdown (payload : List Byte) (s : State) : Carries s (Machine.takeShutdown payload s) := by
  unfold Machine.takeShutdown
  split
  · exact respond _ _ s
  · split
    · exact of_same rfl rfl rfl rfl
    · exact respond _ _ s

theorem finishRecovery (s : State) : Carries s (Machine.finishRecovery s) := by
  unfold Machine.finishRecovery
  split
  next => exact refl s
  next r _ =>
    have hfull : ∀ u, Carries u (exhaustedAtStart r u) := fun u => by
      unfold exhaustedAtStart
      split
      · exact setPort _ u
      · exact refl u
    have hheld : ∀ u, Carries u (offerWaitingResolutions u) := fun u => by
      unfold offerWaitingResolutions
      split
      · exact refl u
      · exact (Told.offer _ u).carries
    exact (setPosition _ s).trans ((setJournal _ _).trans ((Told.offer _ _).carries.trans ((hfull _).trans
      ((setJournal _ _).trans (hheld _)))))

/-! ## CONFIG, QUERY and RESTART -/

theorem takeConfig (payload : List Byte) (s : State) : Carries s (Machine.takeConfig payload s) := by
  unfold Machine.takeConfig
  split
  · exact respond _ _ s
  · exact of_same rfl rfl rfl rfl

theorem answerQuery (content : State → List Byte) (s : State) : Carries s (Machine.answerQuery content s) :=
  of_same rfl rfl rfl rfl

theorem plainQuery (kind : Nat) (content : State → List Byte) (payload : List Byte) (s : State) :
    Carries s (Machine.plainQuery kind content payload s) := by
  unfold Machine.plainQuery
  split
  · exact answerQuery _ s
  · exact respond _ _ s

theorem takeMemoryQuery (payload : List Byte) (s : State) : Carries s (Machine.takeMemoryQuery payload s) := by
  unfold Machine.takeMemoryQuery
  split
  · exact respond _ _ s
  · exact answerQuery _ s

theorem endEvaluation_of_idle (h : Carries s (t.setEvaluator .idle)) : Carries s (Machine.endEvaluation t) := by
  rw [endEvaluation_eq]
  split
  · exact h.trans ((setTables _ _).trans (clearMemory _))
  · exact h.trans (setTables _ _)

theorem takeRestart (payload : List Byte) (s : State) : Carries s (Machine.takeRestart payload s) := by
  unfold Machine.takeRestart dropEvaluation
  split
  · split
    · exact of_same rfl rfl rfl rfl
    · exact endEvaluation_of_idle (of_sublists rfl (List.Sublist.refl _) (List.Sublist.refl _) (.inl rfl))
  · exact respond _ _ s

/-! ## Evaluation -/

/-- R7, R78: the presentation that leaves the queue goes into evaluation under its tag. -/
theorem beginEvaluation (hidle : s.evaluator = .idle) : Carries s (Machine.beginEvaluation s) := by
  unfold Machine.beginEvaluation
  split
  next => exact refl s
  next p rest hq =>
    refine ⟨rfl, fun _ => ⟨fun _ _ _ he => (nomatch he), List.Perm.subperm ?_⟩⟩
    show ((rest.map Presentation.tag ++ [p.tag]) ++ s.memory.pendingList.map PendingConsume.tag).Perm
      ((s.intake.queue.map Presentation.tag ++ (s.evaluator.context.map fun x : EvalContext => x.pres.tag).toList)
        ++ s.memory.pendingList.map PendingConsume.tag)
    rw [hidle, hq]
    refine List.Perm.append_right _ ?_
    simp [Evaluator.context]

theorem completeChecks (s : State) : Carries s (Machine.completeChecks s) := by
  unfold Machine.completeChecks
  split
  next => exact refl s
  next c hw =>
    have hctx : s.evaluator.context = some c := by
      cases he : s.evaluator <;> rw [he] at hw <;> cases hw
      rfl
    refine Carries.trans ?_ (Told.offer _ _).carries
    refine ⟨rfl, fun _ => ⟨?_, ?_⟩⟩
    · rintro _ _ _ ⟨⟩
      rfl
    · show ((s.intake.queue.map Presentation.tag ++ [c.pres.tag]) ++ s.memory.pendingList.map PendingConsume.tag).Subperm
        ((s.intake.queue.map Presentation.tag ++ (s.evaluator.context.map fun x : EvalContext => x.pres.tag).toList)
          ++ s.memory.pendingList.map PendingConsume.tag)
      rw [hctx]
      exact List.Subperm.refl _

theorem handTap (c : EvalContext) (v : Verdict) (s : State) : Carries s (Machine.handTap c v s) := by
  unfold Machine.handTap
  split
  · exact setReader _ s
  · exact refl s

/-- R96, R97, R120: the tag of an issued verdict with consume YES goes from the evaluation to the list. -/
theorem pendConsume {c : EvalContext} {v : Verdict} {w : JournalWait} (he : s.evaluator = .awaiting c v w) :
    Carries s ((Machine.pendConsume c v s).setEvaluator .idle) := by
  unfold Machine.pendConsume
  split
  next =>
    refine ⟨rfl, fun htag => ⟨fun _ _ _ h => (nomatch h), List.Perm.subperm ?_⟩⟩
    show ((s.intake.queue.map Presentation.tag ++ []) ++ (s.memory.pendingList ++ [_]).map PendingConsume.tag).Perm
      ((s.intake.queue.map Presentation.tag ++ (s.evaluator.context.map fun x : EvalContext => x.pres.tag).toList)
        ++ s.memory.pendingList.map PendingConsume.tag)
    rw [he, List.append_nil, List.append_assoc, List.map_append]
    refine List.Perm.append_left _ ?_
    show (s.memory.pendingList.map PendingConsume.tag ++ [v.tag]).Perm
      ([c.pres.tag] ++ s.memory.pendingList.map PendingConsume.tag)
    rw [htag c v w he]
    exact List.perm_append_comm
  next => exact of_sublists rfl (List.Sublist.refl _) (List.Sublist.refl _) (.inl rfl)

end Carries

theorem verdictToIssue_awaiting {s : State} {c : EvalContext} {v : Verdict} (h : verdictToIssue s = some (c, v)) :
    ∃ w, s.evaluator = .awaiting c v w := by
  unfold verdictToIssue at h
  split at h
  next heq =>
    split at h
    · obtain ⟨rfl, rfl⟩ := Prod.mk.inj (Option.some.inj h)
      exact ⟨_, heq⟩
    · cases h
  · cases h
  · cases h

theorem handTap_evaluator (c : EvalContext) (v : Verdict) (s : State) : (handTap c v s).evaluator = s.evaluator := by
  unfold handTap
  split <;> rfl

namespace Carries

variable {s t u : State}

theorem issueVerdict (s : State) : Carries s (Machine.issueVerdict s) := by
  unfold Machine.issueVerdict
  split
  next => exact refl s
  next c v hv =>
    obtain ⟨w, he⟩ := verdictToIssue_awaiting hv
    have hhanded : Carries s (requestPattern v.cls (Machine.handTap c v (handVerdict v s))) :=
      (setPort _ s).trans ((handTap c v _).trans (setAnnunciator _ _))
    refine endEvaluation_of_idle (hhanded.trans (pendConsume (w := w) ?_))
    show (Machine.handTap c v (handVerdict v s)).evaluator = _
    rw [handTap_evaluator]
    exact he

/-! ## Trips and the Annunciator -/

theorem takeReport (payload : List Byte) (s : State) : Carries s (Machine.takeReport payload s) := by
  unfold Machine.takeReport applyReport
  split
  · exact refl s
  · split
    · exact Carries.trans (by exact of_sublists rfl (List.Sublist.refl _) List.eraseP_sublist (.inr ⟨rfl, rfl⟩))
        (Told.resolve _ _ _ _).carries
    · split
      · exact Carries.trans (by exact of_same rfl rfl rfl rfl) (Told.resolve _ _ _ _).carries
      · exact refl s

theorem expireWindow (s : State) : Carries s (Machine.expireWindow s) := by
  unfold Machine.expireWindow
  split
  next => exact refl s
  next p rest hl =>
    refine Carries.trans ?_ (Told.resolve _ _ _ _).carries
    refine of_sublists rfl (List.Sublist.refl _) ?_ (.inr ⟨rfl, rfl⟩)
    show rest.Sublist s.memory.pendingList
    rw [hl]
    exact List.sublist_cons_self p rest

theorem completePattern (s : State) : Carries s (Machine.completePattern s) := by
  unfold Machine.completePattern
  split
  · exact refl s
  · exact (setTimeBase _ s).trans (setAnnunciator _ _)

theorem endNote (s : State) : Carries s (Machine.endNote s) := by
  unfold Machine.endNote
  split
  · exact refl s
  · split
    · exact refl s
    · exact (setTimeBase _ s).trans (setAnnunciator _ _)

/-! ## Reception and supply -/

theorem setRx (l : Link) (rx : List Byte) (s : State) : Carries s (Machine.setRx l rx s) := by
  cases l
  · exact setReader _ s
  · exact setPort _ s

theorem takeControl (cls : Nat) (payload : List Byte) (s : State) : Carries s (Machine.takeControl cls payload s) := by
  unfold Machine.takeControl
  split
  · exact setPort _ s
  · exact refl s

/-- A state with nothing held and the queue of commands as it was. -/
theorem of_nothing_held (hpend : t.pending = s.pending) (hq : t.intake.queue = []) (hl : t.memory.pendingList = [])
    (he : t.evaluator = .idle) : Carries s t :=
  of_sublists hpend (hq ▸ List.nil_sublist _) (hl ▸ List.nil_sublist _) (.inl he)

theorem powerOn (low : Bool) (s : State) : ∃ t, execPowerOn low s = .next t ∧ Carries s t := by
  refine ⟨_, rfl, of_nothing_held ?_ rfl rfl rfl⟩
  show (if s.powered then cutFlash s else s).pending = s.pending
  split <;> rfl

theorem powerLoss (s : State) : ∃ t, execPowerLoss s = .next t ∧ Carries s t := by
  refine ⟨_, rfl, ?_⟩
  split
  · exact of_nothing_held rfl rfl rfl rfl
  · exact refl s

theorem frameCheckFailed (l : Link) (bytes : List Byte) (s : State) :
    ∃ t, execFrameCheckFailed l bytes s = .next t ∧ Carries s t := by
  unfold execFrameCheckFailed
  split
  · exact ⟨s, rfl, refl s⟩
  · exact act fun _ => setRx _ _ s

theorem controlFrameReceived (bytes : List Byte) (s : State) :
    ∃ t, execControlFrameReceived bytes s = .next t ∧ Carries s t := by
  unfold execControlFrameReceived
  split
  · exact ⟨s, rfl, refl s⟩
  · exact act fun _ => (setRx .terminal _ s).trans (takeControl _ _ _)

theorem consumeReport (bytes : List Byte) (s : State) : ∃ t, execConsumeReport bytes s = .next t ∧ Carries s t := by
  unfold execConsumeReport onReaderFrame
  split
  · exact ⟨s, rfl, refl s⟩
  · exact act fun _ => (setRx .reader _ s).trans (takeReport _ _)

theorem evaluationBegin (s : State) : ∃ t, execEvaluationBegin s = .next t ∧ Carries s t := by
  refine act fun h => beginEvaluation ?_
  cases he : s.evaluator with
  | idle => rfl
  | evaluating c => simp [evaluationMayBegin, Evaluator.isIdle, he] at h
  | awaiting c v w => simp [evaluationMayBegin, Evaluator.isIdle, he] at h

end Carries

/-- The commands that take a presentation in (R1, R2). -/
def admits : Instr → Prop
  | .presentation _ => True
  | .present => True
  | _ => False

/-- Every command that admits no presentation carries the commands and the tags over. -/
theorem exec_carries (c : Instr) (hc : ¬admits c) (s : State) : ∃ t, exec c s = .next t ∧ Carries s t := by
  cases c with
  | presentation bytes => exact absurd trivial hc
  | present => exact absurd trivial hc
  | powerOn low => exact Carries.powerOn low s
  | powerLoss => exact Carries.powerLoss s
  | recoveryReadDone => exact Carries.act fun _ => Carries.setJournal _ s
  | recoveryErase => exact Carries.act fun _ => (Told.startRecoveryErase s).carries
  | startedEntry => exact Carries.act fun _ => Carries.finishRecovery s
  | supplyLowAsserted => exact Carries.act (f := fun s => notice .supplySafe (setSafe true s)) fun _ => Carries.of_same rfl rfl rfl rfl
  | supplyLowDeasserted => exact Carries.act (f := fun s => notice .supplyNormal (setSafe false s)) fun _ => Carries.of_same rfl rfl rfl rfl
  | consumeReport bytes => exact Carries.consumeReport bytes s
  | frameCheckFailed l bytes => exact Carries.frameCheckFailed l bytes s
  | controlFrameReceived bytes => exact Carries.controlFrameReceived bytes s
  | intakeFlush => exact Carries.dispatch Carries.flushQueue
  | time => exact Carries.dispatch Carries.takeTime
  | depart => exact Carries.dispatch Carries.takeDepart
  | arrive => exact Carries.dispatch Carries.takeArrive
  | switch => exact Carries.dispatch Carries.takeSwitch
  | coach => exact Carries.dispatch Carries.takeCoach
  | runStart => exact Carries.dispatch Carries.takeRunStart
  | loadOpen => exact Carries.dispatch Carries.takeOpen
  | stagingEraseStart => exact Carries.act fun _ => Carries.startErase s
  | tableSectorEraseDone => exact Carries.act fun _ => Carries.finishErase s
  | headerProgramDone => exact Carries.act fun _ => Carries.finishHeader s
  | loadRecord => exact Carries.dispatch Carries.takeRecord
  | recordProgramDone => exact Carries.act fun _ => Carries.finishRecords s
  | loadClose => exact Carries.dispatch Carries.takeClose
  | contentCheckDone => exact Carries.act fun _ => Carries.finishCheck s
  | loadCommitNow => exact Carries.dispatchWhen Carries.takeCommitNow
  | loadCommitTime => exact Carries.dispatchWhen (takes := fun p => !commitModeNow p) Carries.takeCommitTime
  | commitBegin => exact Carries.act fun _ => Carries.startMark s
  | commitMarkDone => exact Carries.act fun _ => Carries.finishCommit s
  | loadAbandon => exact Carries.dispatch Carries.takeAbandon
  | exportRead => exact Carries.dispatch fun p u => (Told.takeExportRead p u).carries
  | exportMark => exact Carries.dispatch fun p u => (Told.takeExportMark p u).carries
  | note => exact Carries.dispatch fun p u => (Told.takeNote p u).carries
  | shutdown => exact Carries.dispatch Carries.takeShutdown
  | closedEntry =>
    exact Carries.act (f := fun s => offer .control (s.setJournal { s.journal with control := some .closed }))
      fun _ => ((Told.setJournal _ s).trans (Told.offer _ _)).carries
  | config => exact Carries.dispatch Carries.takeConfig
  | queryStatus => exact Carries.dispatchWhen (takes := fun p => queryRow p == 1) (Carries.plainQuery 1 statusBytes)
  | queryDirectory =>
    exact Carries.dispatchWhen (takes := fun p => queryRow p == 2) (Carries.plainQuery 2 directoryBytes)
  | queryHistory => exact Carries.dispatchWhen (takes := fun p => queryRow p == 3) (Carries.plainQuery 3 historyBytes)
  | queryMemory => exact Carries.dispatchWhen (takes := fun p => queryRow p == 4) Carries.takeMemoryQuery
  | restart => exact Carries.dispatch Carries.takeRestart
  | drainEnd => exact Carries.act fun _ => Carries.setPort _ s
  | warmRestartEffect => exact Carries.act fun _ => Carries.of_nothing_held rfl rfl rfl rfl
  | minuteTick => exact Carries.act fun _ => Carries.minuteTick s
  | evaluationBegin => exact Carries.evaluationBegin s
  | checkCompletion => exact Carries.act fun _ => Carries.completeChecks s
  | waitingEntryQueued => exact Carries.act fun _ => (Told.queueWaiting s).carries
  | verdictIssue => exact Carries.act fun _ => Carries.issueVerdict s
  | entryProgramStart => exact Carries.act fun _ => Carries.setJournal _ s
  | entryProgramDone => exact Carries.act fun _ => (Told.finishProgram s).carries
  | headMove => exact Carries.act fun _ => (Told.moveHead s).carries
  | journalEraseStart => exact Carries.act fun _ => Carries.setJournal _ s
  | journalSectorEraseDone => exact Carries.act fun _ => (Told.finishJournalErase s).carries
  | consumeWindowExpiry => exact Carries.act fun _ => Carries.expireWindow s
  | patternCompletion => exact Carries.act fun _ => Carries.completePattern s
  | readerTxDone => exact Carries.act fun _ => Carries.setReader _ s
  | terminalTxDone => exact Carries.act fun _ => Carries.setPort _ s
  | noteEnd => exact Carries.act fun _ => Carries.endNote s

/-! ## The two commands that take a presentation in -/

/-- What an admission keeps: the queue of commands, and the tags distinct while the pending-consume list is within its
bound (R120). -/
structure Admitted (s t : State) : Prop where
  pending : t.pending = s.pending
  distinct : s.memory.pendingList.length ≤ 4 → s.tagsDistinct → t.tagsDistinct

namespace Admitted

variable {s t u : State}

theorem of_carries (h : Carries s t) : Admitted s t := ⟨h.pending, fun _ => h.tagsDistinct⟩

theorem trans_carries (h : Admitted s t) (k : Carries t u) : Admitted s u :=
  ⟨k.pending.trans h.pending, fun hok hs => k.tagsDistinct (h.distinct hok hs)⟩

theorem carries_trans (h : Carries s t) (hmem : t.memory = s.memory) (k : Admitted t u) : Admitted s u :=
  ⟨k.pending.trans h.pending, fun hl hs => k.distinct (hmem ▸ hl) (h.tagsDistinct hs)⟩

/-- R5: the tag of an admission is held by nobody, so it stands beside the others. -/
theorem enrol (src : Source) (p : PresPayload) (hroom : s.intake.queue.length < 14) :
    Admitted s (Machine.enrol src p s) := by
  rw [enrol_eq]
  refine ⟨rfl, fun hok hs => ?_⟩
  obtain ⟨hnodup, htag⟩ := hs
  refine ⟨?_, htag⟩
  have hperm : (heldTags (s.setIntake
      { queue := s.intake.queue ++ [recordOf src (nextTag s) s.position.clock p]
        tagCounter := (nextTag s + 1) % 256
        causes := { s.intake.causes with depth := s.depthAt (s.intake.queue.length + 1) } })).Perm
      (nextTag s :: heldTags s) := by
    simp only [heldTags, State.setIntake_intake, State.setIntake_evaluator, State.setIntake_memory, List.map_append,
      List.append_assoc, List.map_cons, List.map_nil]
    exact List.perm_middle
  exact hperm.nodup_iff.mpr (List.nodup_cons.mpr ⟨nextTag_not_held hok hroom, hnodup⟩)

theorem takePresentation (payload : List Byte) (s : State) : Admitted s (Machine.takePresentation payload s) := by
  unfold Machine.takePresentation
  split
  · exact of_carries (Carries.of_same rfl rfl rfl rfl)
  · split
    next hroom => exact enrol _ _ hroom
    next => exact of_carries (Carries.of_same rfl rfl rfl rfl)

theorem takeKeyed (payload : List Byte) (s : State) : Admitted s (Machine.takeKeyed payload s) := by
  unfold Machine.takeKeyed
  split
  · exact of_carries (Carries.respond _ _ s)
  · split
    next h => exact carries_trans (Carries.respond _ _ s) rfl (enrol _ _ h.1)
    next => exact of_carries (Carries.respond _ _ s)

theorem presentation (bytes : List Byte) (s : State) : ∃ t, execPresentation bytes s = .next t ∧ Admitted s t := by
  unfold execPresentation onReaderFrame
  split
  next => exact ⟨s, rfl, of_carries (Carries.refl s)⟩
  next payload rest _ =>
    have htaken : Admitted s (Machine.takePresentation payload (setRx .reader rest s)) :=
      carries_trans (Carries.setRx .reader rest s) rfl (takePresentation payload _)
    refine ⟨_, rfl, ?_⟩
    split
    · exact htaken.trans_carries (Carries.settle _)
    · exact of_carries (Carries.refl s)

theorem present (s : State) : ∃ t, execPresent s = .next t ∧ Admitted s t := by
  unfold execPresent dispatch dispatchWhen
  split
  next => exact ⟨s, rfl, of_carries (Carries.refl s)⟩
  next fr _ =>
    have hframe : Carries s (takeFrame s) := Carries.setPort _ s
    have htaken := carries_trans hframe rfl (takeKeyed fr.payload (takeFrame s))
    refine ⟨_, rfl, ?_⟩
    split
    · exact htaken.trans_carries (Carries.settle _)
    · exact of_carries (Carries.refl s)

end Admitted

theorem exec_admitted (c : Instr) (s : State) : ∃ t, exec c s = .next t ∧ Admitted s t := by
  by_cases hc : admits c
  · cases c with
    | presentation bytes => exact Admitted.presentation bytes s
    | present => exact Admitted.present s
    | _ => exact absurd hc id
  · obtain ⟨t, ht, hcarries⟩ := exec_carries c hc s
    exact ⟨t, ht, .of_carries hcarries⟩

/-- Settles O3: an admission and every other command end in a next state with the queue of commands as it was. -/
theorem everyCommandCompletes : Obligations.EveryCommandCompletes := fun c s => by
  obtain ⟨t, ht, hadmitted⟩ := exec_admitted c s
  exact ⟨t, ht, hadmitted.pending⟩

/-- Settles O6: an admission gives a tag that nobody holds, every other command gives none, and idling touches none. -/
theorem tagsStayDistinct : Obligations.TagsStayDistinct := by
  intro s t hb hdistinct hstep
  have hok : s.Ok := (bounded_iff s).mp hb
  unfold step at hstep
  split at hstep
  next =>
    cases hstep
    unfold idle
    split
    · exact (Carries.setTimeBase _ s).tagsDistinct hdistinct
    · exact hdistinct
  next c rest _ =>
    obtain ⟨u, hu, hadmitted⟩ := exec_admitted c (s.setPending rest)
    cases hu.symm.trans hstep
    exact hadmitted.distinct hok.memory.2.1 hdistinct

/-! ## The step -/

/-- Settles O1: with a command in front, the step is that command's `exec` on the queue's rest. -/
theorem stepRunsTheFrontCommand : Obligations.StepRunsTheFrontCommand := fun c rest s h => by
  unfold step
  rw [h]
  rfl

/-- Settles O4: every block stands at its power-on values, which lie within its bounds. -/
theorem resetIsBounded : Obligations.ResetIsBounded := by
  exact (bounded_iff _).mpr
    { tables := ⟨rfl, rfl, rfl⟩
      journal := ⟨rfl, Nat.zero_le 8, List.nodup_nil⟩
      memory := InspectionMemory.initial_ok
      port := TerminalPort.initial_ok
      intake := IntakeQueue.empty_ok _
      position := PositionUnit.initial_ok
      patterns := Nat.zero_le 4
      settings := Settings.defaults_inRange
      place := placeOk_idle _ }

end Sys2Proof.Machine
end

section
/-! SUPPORT. When a command does nothing, and the frames that are received or lost. -/

namespace Sys2Proof.Machine

/-! ## A command without its occasion -/

/-- A powered part's command whose event can happen. -/
theorem act_occurs {occasion : Bool} {s : State} (f : State → State) (hpow : s.powered = true)
    (hocc : occasion = true) : act occasion f s = .next (settle (f s)) := by
  simp [act, hpow, hocc]

theorem act_idle {occasion : Bool} {s : State} (f : State → State) (hocc : occasion = false) :
    act occasion f s = .next s := by
  simp [act, hocc]

theorem act_unpowered {s : State} (occasion : Bool) (f : State → State) (hpow : s.powered = false) :
    act occasion f s = .next s := by
  simp [act, hpow]

/-- R153: a frame stays in the input place when no frame can be dispatched, or its owner cannot take one. -/
theorem dispatchWhen_waits {cls : Nat} {owner : Bool} {takes : List Byte → Bool} {f : List Byte → State → State}
    {s : State} (h : frameReady s = false ∨ owner = false) : dispatchWhen cls owner takes f s = .next s := by
  unfold dispatchWhen
  split
  · rfl
  · refine act_idle _ ?_
    rcases h with h | h <;> simp [h]

theorem dispatchWhen_unpowered {cls : Nat} {owner : Bool} {takes : List Byte → Bool}
    {f : List Byte → State → State} {s : State} (h : s.powered = false) :
    dispatchWhen cls owner takes f s = .next s := by
  unfold dispatchWhen
  split
  · rfl
  · exact act_unpowered _ _ h

theorem onReaderFrame_unpowered {cls : Nat} {bytes : List Byte} {f : List Byte → State → State} {s : State}
    (h : s.powered = false) : onReaderFrame cls bytes f s = .next s := by
  unfold onReaderFrame
  split
  · rfl
  · exact act_unpowered _ _ h

/-- Log entry 32: without supply nothing but POWER_ON changes anything. -/
theorem exec_unpowered {c : Instr} {s : State} (h : s.powered = false) (hc : ∀ low, c ≠ .powerOn low) :
    exec c s = .next s := by
  cases c with
  | powerOn low => exact absurd rfl (hc low)
  | powerLoss => simp [exec, execPowerLoss, h]
  | presentation bytes => exact onReaderFrame_unpowered h
  | consumeReport bytes => exact onReaderFrame_unpowered h
  | frameCheckFailed l bytes =>
    simp only [exec, execFrameCheckFailed]
    split
    · rfl
    · exact act_unpowered _ _ h
  | controlFrameReceived bytes =>
    simp only [exec, execControlFrameReceived]
    split
    · rfl
    · exact act_unpowered _ _ h
  | loadCommitNow => exact dispatchWhen_unpowered h
  | loadCommitTime => exact dispatchWhen_unpowered (takes := fun p => !commitModeNow p) h
  | queryStatus => exact dispatchWhen_unpowered (takes := fun p => queryRow p == 1) h
  | queryDirectory => exact dispatchWhen_unpowered (takes := fun p => queryRow p == 2) h
  | queryHistory => exact dispatchWhen_unpowered (takes := fun p => queryRow p == 3) h
  | queryMemory => exact dispatchWhen_unpowered (takes := fun p => queryRow p == 4) h
  | present | intakeFlush | time | depart | arrive | switch | coach | runStart | loadOpen | loadRecord | loadClose
  | loadAbandon | exportRead | exportMark | note | shutdown | config | restart =>
    exact dispatchWhen_unpowered (takes := fun _ => true) h
  | supplyLowAsserted => exact act_unpowered _ (fun s => notice .supplySafe (setSafe true s)) h
  | supplyLowDeasserted => exact act_unpowered _ (fun s => notice .supplyNormal (setSafe false s)) h
  | closedEntry =>
    exact act_unpowered _ (fun s => offer .control (s.setJournal { s.journal with control := some .closed })) h
  | _ => exact act_unpowered _ _ h

/-- Settles O2: a millisecond of idling, none without supply, and no command without supply. -/
theorem idleAndUnpoweredSteps : Obligations.IdleAndUnpoweredSteps := by
  refine ⟨fun s hpend hpow => ?_, fun s hpend hpow => ?_, fun c s hpow hc => exec_unpowered hpow hc⟩
  · simp [step, hpend, idle, hpow, State.setTimeBase]
  · simp [step, hpend, idle, hpow]

/-! ## Frames that wait at dispatch (R153) -/

theorem exec_waits_of_frameReady_false {c : Instr} (hc : c ∈ dispatchRows) {s : State} (h : frameReady s = false) :
    exec c s = .next s := by
  revert c
  simp only [dispatchRows, List.forall_mem_cons, List.not_mem_nil, false_imp_iff, implies_true, and_true]
  have wait := fun cls owner takes f => dispatchWhen_waits (cls := cls) (owner := owner) (takes := takes) (f := f) (.inl h)
  exact ⟨wait _ _ (fun _ => true) _, wait _ _ (fun _ => true) _, wait _ _ (fun _ => true) _, wait _ _ (fun _ => true) _,
    wait _ _ (fun _ => true) _, wait _ _ (fun _ => true) _, wait _ _ (fun _ => true) _, wait _ _ (fun _ => true) _,
    wait _ _ (fun _ => true) _, wait _ _ (fun _ => true) _, wait _ _ (fun _ => true) _,
    wait _ _ commitModeNow _, wait _ _ (fun p => !commitModeNow p) _, wait _ _ (fun _ => true) _,
    wait _ _ (fun _ => true) _, wait _ _ (fun _ => true) _, wait _ _ (fun _ => true) _, wait _ _ (fun _ => true) _,
    wait _ _ (fun _ => true) _, wait _ _ (fun p => queryRow p == 1) _, wait _ _ (fun p => queryRow p == 2) _,
    wait _ _ (fun p => queryRow p == 3) _, wait _ _ (fun p => queryRow p == 4) _, wait _ _ (fun _ => true) _⟩

theorem frameReady_eq_false {s : State} (h : 8 ≤ s.port.responses.length ∨ s.journal.mode = .recovering
    ∨ s.intake.causes.restarting = true) : frameReady s = false := by
  simp only [frameReady, State.restarting, Bool.and_eq_false_iff, decide_eq_false_iff_not, Bool.not_eq_false',
    bne_eq_false_iff_eq]
  rcases h with h | h | h
  · exact .inl (.inl (by omega))
  · exact .inl (.inr h)
  · exact .inr h

theorem positionReady_eq_false {s : State} (h : s.position.outgoing ≠ none) : positionReady s = false := by
  simp [positionReady, Option.isSome_iff_ne_none, h]

theorem journalReady_eq_false {s : State} (h : s.journal.control ≠ none) : journalReady s = false := by
  simp [journalReady, Option.isSome_iff_ne_none, h]

theorem tablesReady_eq_false {s : State} (h : s.tables.outgoing ≠ none ∨ s.tables.checking = true
    ∨ ∃ n position rs present, s.tables.op = some (.recordProgram n position rs present)) : tablesReady s = false := by
  rcases h with h | h | ⟨_, _, _, _, h⟩
  · simp [tablesReady, Option.isSome_iff_ne_none, h]
  · simp [tablesReady, h]
  · simp [tablesReady, recordInFlight, h]

theorem exec_waits_of_position {c : Instr} (hc : c ∈ [Instr.time, .depart, .arrive, .switch, .coach, .runStart])
    {s : State} (h : positionReady s = false) : exec c s = .next s := by
  have wait := fun cls f => dispatchWhen_waits (cls := cls) (f := f) (takes := fun _ => true) (s := s) (.inr h)
  fin_cases hc <;> exact wait _ _

theorem exec_waits_of_tables {c : Instr}
    (hc : c ∈ [Instr.loadOpen, .loadRecord, .loadClose, .loadCommitNow, .loadCommitTime, .loadAbandon])
    {s : State} (h : tablesReady s = false) : exec c s = .next s := by
  have wait := fun cls f takes => dispatchWhen_waits (cls := cls) (f := f) (takes := takes) (s := s) (.inr h)
  fin_cases hc
  · exact wait _ _ fun _ => true
  · exact wait _ _ fun _ => true
  · exact wait _ _ fun _ => true
  · exact wait _ _ commitModeNow
  · exact wait _ _ fun p => !commitModeNow p
  · exact wait _ _ fun _ => true

theorem exec_waits_of_journal {c : Instr} (hc : c ∈ [Instr.exportRead, .exportMark, .note, .shutdown])
    {s : State} (h : journalReady s = false) : exec c s = .next s := by
  have wait := fun cls f => dispatchWhen_waits (cls := cls) (f := f) (takes := fun _ => true) (s := s) (.inr h)
  fin_cases hc <;> exact wait _ _

/-- Settles O7: the three conditions of every frame, and the readiness of each owner. -/
theorem framesWaitAtDispatch : Obligations.FramesWaitAtDispatch := by
  rintro c hc s (hlen | hmode | hres | hbusy)
  · exact exec_waits_of_frameReady_false hc (frameReady_eq_false (.inl hlen))
  · exact exec_waits_of_frameReady_false hc (frameReady_eq_false (.inr (.inl hmode)))
  · exact exec_waits_of_frameReady_false hc (frameReady_eq_false (.inr (.inr hres)))
  · rcases hbusy with ⟨hrow, hout⟩ | ⟨hrow, hbusy⟩ | ⟨hrow, hcontrol⟩
    · exact exec_waits_of_position hrow (positionReady_eq_false hout)
    · exact exec_waits_of_tables hrow (tablesReady_eq_false hbusy)
    · exact exec_waits_of_journal hrow (journalReady_eq_false hcontrol)

/-! ## A frame as sent and as received (R151, R172) -/

theorem hunt_append {junk : List Byte} (h : syncByte ∉ junk) (l : List Byte) :
    hunt (junk ++ syncByte :: l) = syncByte :: l := by
  have hjunk : ∀ b ∈ junk, (b != syncByte) = true := fun b hb => by
    simp only [bne_iff_ne]
    rintro rfl
    exact h hb
  simp [hunt, List.dropWhile_append_of_pos hjunk]

theorem toNat_be2 (n : Nat) (h : n < 65536) :
    (BitVec.ofNat 8 (n / 256)).toNat * 256 + (BitVec.ofNat 8 n).toNat = n := by
  simp only [BitVec.toNat_ofNat]
  omega

/-- The bytes after the sync byte of a frame as sent. -/
theorem receiveAfterSync_frame {cls : Nat} {payload : List Byte} (rest : List Byte) (hcls : cls < 256)
    (hlen : payload.length ≤ 1024) :
    receiveAfterSync (frameBody cls payload ++ bits16Bytes (crc (frameBody cls payload)) ++ rest)
      = .frame cls payload rest := by
  generalize hcrc : crc (frameBody cls payload) = r
  have hbody : (frameBody cls payload).length = 3 + payload.length := by
    simp [frameBody, be1, be2]
    omega
  have hsize : u16 (frameBody cls payload ++ bits16Bytes r ++ rest) 1 = payload.length := by
    simpa [frameBody, be1, be2, u16, u8] using toNat_be2 payload.length (by omega)
  have hcheck : bits16At (frameBody cls payload ++ bits16Bytes r ++ rest) (3 + payload.length) = r := by
    have hbytes := toNat_be2 r.toNat r.isLt
    have h0 : (frameBody cls payload ++ bits16Bytes r ++ rest).getD (3 + payload.length) 0
        = BitVec.ofNat 8 (r.toNat / 256) := by
      rw [← hbody, List.append_assoc, List.getD_append_right _ _ _ _ le_rfl]
      simp [bits16Bytes, be2]
    have h1 : (frameBody cls payload ++ bits16Bytes r ++ rest).getD (3 + payload.length + 1) 0
        = BitVec.ofNat 8 r.toNat := by
      rw [← hbody, List.append_assoc, List.getD_append_right _ _ _ _ (Nat.le_succ _)]
      simp [bits16Bytes, be2]
    rw [bits16At, u16, u8, u8, h0, h1, hbytes]
    simp
  have htake : (frameBody cls payload ++ bits16Bytes r ++ rest).take (3 + payload.length) = frameBody cls payload := by
    rw [← hbody, List.append_assoc, List.take_left]
  have htotal : (frameBody cls payload ++ bits16Bytes r ++ rest).length = 3 + payload.length + 2 + rest.length := by
    simp [hbody, bits16Bytes, be2]
    omega
  have hdrop : (frameBody cls payload ++ bits16Bytes r ++ rest).drop (3 + payload.length + 2) = rest := by
    refine List.drop_left' ?_
    simp [hbody, bits16Bytes, be2]
  have hpayload : ((frameBody cls payload ++ bits16Bytes r ++ rest).drop 3).take payload.length = payload := by
    simp [frameBody, be1, be2]
  have hclass : u8 (frameBody cls payload ++ bits16Bytes r ++ rest) 0 = cls := by
    simp [frameBody, be1, u8, Nat.mod_eq_of_lt hcls]
  unfold receiveAfterSync
  rw [hsize, htotal, hcheck, htake, hcrc, hdrop, hpayload, hclass, if_neg (by omega),
    if_neg (by simp [maxPayload, hlen]), if_neg (by omega), if_pos rfl]

/-- Settles O8: the junk is hunted over, and what follows the sync byte is read back field by field. -/
theorem frameRoundTrip : Obligations.FrameRoundTrip := by
  intro cls junk payload rest hcls hlen hjunk
  have hframe : junk ++ frameBytes cls payload ++ rest
      = junk ++ syncByte :: (frameBody cls payload ++ bits16Bytes (crc (frameBody cls payload)) ++ rest) := by
    simp [frameBytes]
  rw [hframe, receive, hunt_append hjunk]
  exact receiveAfterSync_frame rest hcls hlen

/-! ## Frames received or lost (R151, R152) -/

theorem failedRest_failed {l : Link} {bytes rest : List Byte} (h : receive bytes = .failed rest) :
    failedRest l bytes = some (hunt rest) := by
  simp [failedRest, h]

theorem failedRest_foreign {l : Link} {bytes payload rest : List Byte} {cls : Nat}
    (h : receive bytes = .frame cls payload rest) (hcls : cls ∉ classesToward l) : failedRest l bytes = some rest := by
  simp [failedRest, h, carriedToward, hcls]

theorem frameCheckFailed_of_failedRest {l : Link} {bytes rest : List Byte} {s : State} (hpow : s.powered = true)
    (h : failedRest l (rxAfter l bytes s) = some rest) :
    exec (.frameCheckFailed l bytes) s = .next (settle (setRx l rest s)) := by
  simp only [exec, execFrameCheckFailed, h]
  exact act_occurs _ hpow rfl

theorem controlFrameReceived_of_frame {bytes payload rest : List Byte} {cls : Nat} {s : State}
    (hpow : s.powered = true) (h : receive (s.port.rx ++ bytes) = .frame cls payload rest)
    (hcls : cls ∈ classesToward .terminal) :
    exec (.controlFrameReceived bytes) s = .next (settle (takeControl cls payload (setRx .terminal rest s))) := by
  have hw : wholeFrame (classesToward .terminal) (rxAfter .terminal bytes s) = some (cls, payload, rest) := by
    simp [wholeFrame, rxAfter, h, hcls]
  simp only [exec, execControlFrameReceived, hw]
  exact act_occurs _ hpow rfl

theorem takeControl_empty {cls : Nat} {payload : List Byte} {s : State} (h : s.port.input = none) :
    takeControl cls payload s = s.setPort { s.port with input := some { cls := cls, payload := payload } } := by
  simp [takeControl, h]

theorem takeControl_occupied {cls : Nat} {payload : List Byte} {s : State} (h : s.port.input ≠ none) :
    takeControl cls payload s = s := by
  obtain ⟨fr, hfr⟩ := Option.ne_none_iff_exists'.mp h
  simp [takeControl, hfr]

/-- Settles O18: what each failed or whole reception leaves, link by link. -/
theorem framesReceivedOrLost : Obligations.FramesReceivedOrLost := by
  intro bytes rest cls payload s hpow
  refine ⟨fun h => ?_, fun h h1 h2 => ?_, fun h => ?_, fun h => ⟨fun hcls => ?_, fun hcls => ⟨fun hin => ?_, fun hin => ?_⟩⟩⟩
  · exact frameCheckFailed_of_failedRest (l := .reader) hpow (failedRest_failed h)
  · refine frameCheckFailed_of_failedRest (l := .reader) hpow (failedRest_foreign h ?_)
    simp [classesToward, clsPresentation, clsConsumeReport, h1, h2]
  · exact frameCheckFailed_of_failedRest (l := .terminal) hpow (failedRest_failed h)
  · exact frameCheckFailed_of_failedRest (l := .terminal) hpow (failedRest_foreign h hcls)
  · rw [controlFrameReceived_of_frame hpow h hcls, takeControl_empty (s := setRx .terminal rest s) hin]
    rfl
  · rw [controlFrameReceived_of_frame hpow h hcls, takeControl_occupied (s := setRx .terminal rest s) hin]
    rfl

/-! ## The supply-low line and the reader's transmitter -/

/-- Settles O12: each change of the line is one `act` on the state as it stands. -/
theorem supplyLowLine : Obligations.SupplyLowLine := by
  refine fun s hpow => ⟨fun hlow => ?_, fun hlow => ?_⟩
  · exact act_occurs (fun s => notice .supplySafe (setSafe true s)) hpow (by rw [hlow]; rfl)
  · exact act_occurs (fun s => notice .supplyNormal (setSafe false s)) hpow hlow

theorem readerTransmit_flow {s : State} (hfree : s.reader.sending = none)
    (h : s.intake.causes.wanted ≠ s.reader.asSent) :
    readerTransmit s = notice (.holdState s.intake.causes.wanted s.intake.causes)
      (s.setReader { s.reader with asSent := s.intake.causes.wanted
                                   sending := some (if s.intake.causes.wanted then .hold else .resume) }) := by
  simp [readerTransmit, hfree, h]

theorem readerTransmit_tap {s : State} {t : TapResult} {rest : List TapResult} (hfree : s.reader.sending = none)
    (h : s.intake.causes.wanted = s.reader.asSent) (ht : s.reader.taps = t :: rest) :
    readerTransmit s = s.setReader { s.reader with taps := rest, sending := some (.tap t) } := by
  simp [readerTransmit, hfree, h, ht]

theorem readerTransmit_none {s : State} (hfree : s.reader.sending = none)
    (h : s.intake.causes.wanted = s.reader.asSent) (ht : s.reader.taps = []) : readerTransmit s = s := by
  simp [readerTransmit, hfree, h, ht]

/-- Settles O19: the transmitter set free takes what `readerTransmit` chooses. -/
theorem readerTransmitterChooses : Obligations.ReaderTransmitterChooses := by
  rintro s _ hpow hsending rfl
  have hexec : exec .readerTxDone s
      = .next (terminalTransmit (readerTransmit (s.setReader { s.reader with sending := none }))) :=
    act_occurs _ hpow (Option.isSome_iff_ne_none.mpr hsending)
  refine ⟨fun h => ?_, fun t rest h ht => ?_, fun h ht => ?_⟩
  · rw [hexec, readerTransmit_flow (s := s.setReader { s.reader with sending := none }) rfl h]
    rfl
  · rw [hexec, readerTransmit_tap (s := s.setReader { s.reader with sending := none }) rfl h ht]
    rfl
  · rw [hexec, readerTransmit_none (s := s.setReader { s.reader with sending := none }) rfl h ht]
    rfl

end Sys2Proof.Machine
end

section
/-! SUPPORT. An entry offered (R132): queued, queued under the last number, dropped, waiting, or held by recovery; and the
same for the Position Unit's entry with its held response (R31). -/

namespace Sys2Proof.Machine

section
variable {p : Producer} {d : Draft} {s : State}

theorem dropping_iff (s : State) : dropping s = true ↔ s.dropsEntries := by
  simp [dropping, State.restarting, State.dropsEntries, Option.isSome_iff_ne_none]

theorem dropping_eq_false (hfull : s.journal.full = none) (h : s.takesEntries) : dropping s = false := by
  rw [← Bool.not_eq_true, dropping_iff]
  rcases h with h | h | ⟨h, hres⟩ <;> simp [hfull, h]
  exact hres

theorem takesEntries_not_recovering (h : s.takesEntries) : s.journal.mode ≠ .recovering := by
  rcases h with h | h | ⟨h, -⟩ <;> simp [h]

/-- R132, R137, R148. -/
theorem offer_of_dropsEntries (p : Producer) (h : s.dropsEntries) : offer p s = tellDropped p s :=
  if_pos ((dropping_iff s).mpr h)

/-- R132: with a place free and nobody waiting, an entry offered is queued. -/
theorem offer_eq_enqueue (hfull : s.journal.full = none) (htakes : s.takesEntries)
    (hroom : s.journal.queue.length < 8) (hwait : s.journal.waiting = []) : offer p s = enqueue p s := by
  rw [offer, if_neg (by simp [dropping_eq_false hfull htakes]), if_neg (takesEntries_not_recovering htakes),
    if_pos ⟨hroom, hwait⟩]

theorem enqueue_of_number (hd : draftOf s p = some d) (hn : s.journal.nextSeq < 4294967295) :
    enqueue p s = tellQueued p s.journal.nextSeq (queueEntry (entryNow s d) s) := by
  simp only [enqueue, hd, lastSequence]
  exact if_neg (Nat.ne_of_lt hn)

theorem enqueue_of_last (hd : draftOf s p = some d) (hn : s.journal.nextSeq = 4294967295) :
    enqueue p s = exhaust (tellQueued p s.journal.nextSeq (queueEntry (entryNow s d) s)) := by
  simp only [enqueue, hd, lastSequence]
  exact if_pos hn

theorem offer_of_placeFree (hd : draftOf s p = some d) (h : s.placeFree) :
    offer p s = tellQueued p s.journal.nextSeq (queueEntry (entryNow s d) s) := by
  obtain ⟨hfull, htakes, hroom, hwait, hn⟩ := h
  rw [offer_eq_enqueue hfull htakes hroom hwait, enqueue_of_number hd hn]

theorem offer_of_lastPlace (hd : draftOf s p = some d) (h : s.lastPlace) :
    offer p s = exhaust (tellQueued p s.journal.nextSeq (queueEntry (entryNow s d) s)) := by
  obtain ⟨hfull, htakes, hroom, hwait, hn⟩ := h
  rw [offer_eq_enqueue hfull htakes hroom hwait, enqueue_of_last hd hn]

theorem joinWaiting_new (h : p ∉ s.journal.waiting) :
    joinWaiting p s = s.setJournal { s.journal with waiting := s.journal.waiting ++ [p] } := by
  simp [joinWaiting, h]

theorem offer_of_noPlace (h : s.noPlace) (hp : p ∉ s.journal.waiting) :
    offer p s = s.setJournal { s.journal with waiting := s.journal.waiting ++ [p] } := by
  obtain ⟨hfull, htakes, hbusy⟩ := h
  have hno : ¬(s.journal.queue.length < writeQueueLimit ∧ s.journal.waiting = []) := by
    rintro ⟨hroom, hwait⟩
    rcases hbusy with hlong | hw
    · exact absurd hroom (Nat.not_lt.mpr hlong)
    · exact hw hwait
  rw [offer, if_neg (by simp [dropping_eq_false hfull htakes]), if_neg (takesEntries_not_recovering htakes),
    if_neg hno, joinWaiting_new hp]

/-- R132, R144: during recovery an entry stays where it stands. -/
theorem offer_of_recovering (p : Producer) (hfull : s.journal.full = none) (hmode : s.journal.mode = .recovering) :
    offer p s = s := by
  have hno : ¬dropping s = true := by simp [dropping_iff, hfull, hmode]
  rw [offer, if_neg hno, if_pos hmode]

/-- R131: with nobody waiting, the last number given leaves the Journal FULL with its notice. -/
theorem exhaust_of_nobody_waiting (h : s.journal.waiting = []) : exhaust s = s.exhausted := by
  have hj : { s.journal with full := some .exhausted, waiting := [] }
      = { s.journal with full := some .exhausted } := by rw [← h]
  have hdrop : dropWaiting (s.setJournal { s.journal with full := some .exhausted })
      = s.setJournal { s.journal with full := some .exhausted, waiting := [] } := by
    show tellAllDropped s.journal.waiting _ = _
    rw [h]
    rfl
  rw [exhaust, hdrop, hj]
  rfl

end

/-! ## The Position Unit's entry (R31) -/

/-- An entry stands in the Position Unit's outgoing place. -/
def State.withOutgoing (s : State) (o : PosOutgoing) : State := s.setPosition { s.position with outgoing := some o }

section
variable {s : State} (o : PosOutgoing)

theorem draftOf_withOutgoing : draftOf (s.withOutgoing o) .position = some { body := o.body, run := none } := rfl

/-- The entry told, its place is empty again and its response produced. -/
theorem positionTold_withOutgoing (hout : s.position.outgoing = none) :
    positionTold (s.withOutgoing o) = s.filled o.cls (Reply.with .ok o.content) := by
  have hp : { s.position with outgoing := none } = s.position := by rw [← hout]
  show produce o.cls (Reply.with .ok o.content)
    (s.setPosition { s.position with outgoing := none }) = _
  rw [hp]
  rfl

theorem offer_position_placeFree (hout : s.position.outgoing = none) (h : s.placeFree) :
    offer .position (s.withOutgoing o)
      = (s.entered s.position.run o.body).filled o.cls (Reply.with .ok o.content) := by
  rw [offer_of_placeFree (draftOf_withOutgoing o) h]
  exact positionTold_withOutgoing (s := s.entered s.position.run o.body) o hout

theorem offer_position_dropsEntries (hout : s.position.outgoing = none) (h : s.dropsEntries) :
    offer .position (s.withOutgoing o) = s.filled o.cls (Reply.with .ok o.content) := by
  rw [offer_of_dropsEntries .position (s := s.withOutgoing o) h]
  exact positionTold_withOutgoing o hout

theorem offer_position_noPlace (h : s.noPlace) (hp : Producer.position ∉ s.journal.waiting) :
    offer .position (s.withOutgoing o)
      = { s with
          position := { s.position with outgoing := some o }
          journal := { s.journal with waiting := s.journal.waiting ++ [.position] } } := by
  rw [offer_of_noPlace (s := s.withOutgoing o) h hp]
  rfl

theorem offer_position_lastPlace (hout : s.position.outgoing = none) (h : s.lastPlace) :
    offer .position (s.withOutgoing o)
      = ((s.entered s.position.run o.body).filled o.cls (Reply.with .ok o.content)).exhausted := by
  rw [offer_of_lastPlace (draftOf_withOutgoing o) h]
  have htold : tellQueued .position (s.withOutgoing o).journal.nextSeq
      (queueEntry (entryNow (s.withOutgoing o) { body := o.body, run := none }) (s.withOutgoing o))
      = (s.entered s.position.run o.body).filled o.cls (Reply.with .ok o.content) :=
    positionTold_withOutgoing (s := s.entered s.position.run o.body) o hout
  rw [htold]
  exact exhaust_of_nobody_waiting h.2.2.2.1

end

/-! ## DEPART -/

section
variable (t : Time) (s : State)

@[simp] theorem applyTime_journal : (applyTime t s).journal = s.journal := by
  obtain ⟨_, _, _, _, _, _, _, _, _, h⟩ := applyTime_frame t s
  rw [h]

@[simp] theorem applyTime_intake : (applyTime t s).intake = s.intake := by
  obtain ⟨_, _, _, _, _, _, _, _, _, h⟩ := applyTime_frame t s
  rw [h]

@[simp] theorem applyTime_outgoing : (applyTime t s).position.outgoing = s.position.outgoing := by
  obtain ⟨_, _, _, _, _, _, _, _, _, h⟩ := applyTime_frame t s
  rw [h]

@[simp] theorem applyTime_run : (applyTime t s).position.run = s.position.run := by
  obtain ⟨_, _, _, _, _, _, _, _, _, h⟩ := applyTime_frame t s
  rw [h]

end

/-- R26: the states from which a DEPART is accepted, as its table lists them. -/
theorem departFits_iff (p : PositionUnit) (r : Report) :
    departFits p r = true ↔ p.pos = .unknown ∨ (p.route = some r.route
      ∧ ((∃ j, p.pos = .atStop j ∧ j ≤ r.index) ∨ ∃ j, p.pos = .between j ∧ j < r.index)) := by
  cases h : p.pos <;> simp [departFits, h]

/-- R29: the departure joins the history, the oldest of 24 overwritten. -/
theorem pushDeparture_eq (d : Departure) (s : State) :
    pushDeparture d s = s.setPosition
      { s.position with
        history := (if s.position.history.length < 24 then s.position.history else s.position.history.drop 1) ++ [d]
        wrapped := s.position.wrapped || decide (24 ≤ s.position.history.length) } := by
  by_cases h : s.position.history.length < 24
  · simp [pushDeparture, historyLimit, h, Nat.not_le.mpr h]
  · simp [pushDeparture, historyLimit, h, Nat.not_lt.mp h]

/-- R29: what a departure copies of the stop it names. -/
theorem departureOf_stop {s : State} {r : Report} {b : Bank} {st : StopRec} (hbank : s.tables.active = some b)
    (hst : stopAt b r.route r.index = some st) :
    departureOf s r = { route := r.route, index := r.index, code := st.code, auth := st.auth, zone := st.zone,
                        time := s.position.clock } := by
  simp [departureOf, hbank, hst]

/-- R24, R26, R29: the train past the stop, with its departure in the history and the response held. -/
def State.leftStop (w : State) (b : Bank) (r : Report) (st : StopRec) : State :=
  { w.awaited 33 with
    position :=
      { w.position with
        pos := .between r.index
        route := some r.route
        length := if w.position.pos = .unknown then some (routeLength b r.route) else w.position.length
        history := (if w.position.history.length < 24 then w.position.history else w.position.history.drop 1)
          ++ [{ route := r.route, index := r.index, code := st.code, auth := st.auth, zone := st.zone,
                time := w.position.clock }]
        wrapped := w.position.wrapped || decide (24 ≤ w.position.history.length) } }

/-- R26, R29, R31: an accepted DEPART offers its entry from the state it leaves. -/
theorem checkDepart_accepted {w : State} {b : Bank} {r : Report} {st : StopRec} (hstop : w.hasStop b r)
    (hlast : r.index < routeLength b r.route) (hst : stopAt b r.route r.index = some st)
    (hfits : w.position.pos = .unknown ∨ (w.position.route = some r.route
      ∧ ((∃ j, w.position.pos = .atStop j ∧ j ≤ r.index) ∨ ∃ j, w.position.pos = .between j ∧ j < r.index))) :
    checkDepart r (takeFrame w) = offer .position ((w.leftStop b r st).withOutgoing
      { body := .depart r.route r.index st.code w.position.clock, cls := 33
        content := posBytes (.between r.index) ++ be1 r.route ++ timeBytes w.position.clock }) := by
  have hnames : reportNamesStop (takeFrame w).tables.active r = true := (reportNamesStop_iff w r).mpr ⟨b, hstop⟩
  have hnot : lastOfRoute (takeFrame w).tables.active r = false := by
    show lastOfRoute w.tables.active r = false
    simp [lastOfRoute, hstop.1, Nat.ne_of_lt hlast]
  have hdepart : departFits (takeFrame w).position r = true := (departFits_iff w.position r).mpr hfits
  have hmove := moveTo_eq (s := takeFrame w) (.between r.index) hstop.1 (hfits.imp_right And.left)
  have hdeparture := departureOf_stop (s := takeFrame w) hstop.1 hst
  simp only [checkDepart, hnames, hnot, hdepart, Bool.not_true, Bool.false_or, Bool.false_eq_true, if_false, if_true,
    departed, hdeparture, hmove, pushDeparture_eq]
  rfl

theorem takeDepart_some {payload : List Byte} {r : Report} (s : State) (h : readReport payload = some r) :
    takeDepart payload s = checkDepart r (applyTime r.time s) := by
  simp [takeDepart, h]

/-- Settles O22: the DEPART is accepted in the state its time leaves, and its entry meets one of the four places. -/
theorem departMovesTheTrain : Obligations.DepartMovesTheTrain := by
  rintro payload _ r b st _ s _ m hframe hout hread hstop hlast hst hfits rfl rfl rfl hm
  have hexec : exec .depart s = .next (settle (takeDepart payload (takeFrame s))) :=
    dispatch_position_of_holdsFrame takeDepart hframe hout
  have haccepted := checkDepart_accepted (hasStop_applyTime r.time hstop) hlast hst (by simpa using hfits)
  have hleft : m = (applyTime r.time s).leftStop b r st := by
    simp only [hm, State.leftStop, applyTime_pos, applyTime_length]
  have hjournal : m.journal = s.journal := by rw [hleft]; exact applyTime_journal r.time s
  have hintake : m.intake = s.intake := by rw [hleft]; exact applyTime_intake r.time s
  have hout' : m.position.outgoing = none := by rw [hleft]; exact (applyTime_outgoing r.time s).trans hout
  have hrun : m.position.run = s.position.run := by rw [hleft]; exact applyTime_run r.time s
  rw [hexec, takeDepart_some _ hread, applyTime_takeFrame, haccepted, ← hleft]
  refine ⟨fun h => ?_, fun h => ?_, fun h hp => ?_, fun h => ?_⟩
  · rw [offer_position_placeFree _ hout' (by rw [State.placeFree, State.takesEntries, hjournal, hintake]; exact h), hrun]
  · rw [offer_position_dropsEntries _ hout' (by rw [State.dropsEntries, hjournal, hintake]; exact h)]
  · rw [offer_position_noPlace _ (by rw [State.noPlace, State.takesEntries, hjournal, hintake]; exact h)
      (by rw [hjournal]; exact hp), hjournal]
  · rw [offer_position_lastPlace _ hout' (by rw [State.lastPlace, State.takesEntries, hjournal, hintake]; exact h), hrun]

/-! ## Position frames refused -/

theorem takeTime_none {payload : List Byte} (s : State) (h : readTime payload = none) :
    takeTime payload s = answerTime clsTime .badArg s := by
  simp [takeTime, h]

/-- R25: a report of which the ACTIVE bank has no stop. -/
theorem reportNamesStop_eq_false {s : State} {r : Report} (h : ∀ b, ¬s.hasStop b r) :
    reportNamesStop s.tables.active r = false := by
  rw [← Bool.not_eq_true, reportNamesStop_iff]
  exact not_exists.mpr h

theorem hasStop_of_applyTime {s : State} {b : Bank} {r : Report} {t : Time} (h : (applyTime t s).hasStop b r) :
    s.hasStop b r := by
  obtain ⟨hactive, hnamed⟩ := h
  exact ⟨(applyTime_active t s).symm.trans hactive, hnamed⟩

section
variable {w : State} {r : Report}

theorem checkDepart_badArg (h : (∀ b, ¬w.hasStop b r) ∨ ∃ b, w.tables.active = some b ∧ r.index = routeLength b r.route) :
    checkDepart r w = answerTime clsDepart .badArg w := by
  refine if_pos ?_
  rcases h with h | ⟨b, hb, hlast⟩
  · simp [reportNamesStop_eq_false h]
  · simp [lastOfRoute, hb, hlast]

theorem checkArrive_badArg (h : ∀ b, ¬w.hasStop b r) : checkArrive r w = answerTime clsArrive .badArg w :=
  if_pos (by simp [reportNamesStop_eq_false h])

theorem checkSwitch_badArg (h : ∀ b, ¬w.hasStop b r) : checkSwitch r w = answerTime clsSwitch .badArg w :=
  if_pos (by simp [reportNamesStop_eq_false h])

theorem checkDepart_badState {b : Bank} (hstop : w.hasStop b r) (hlast : r.index < routeLength b r.route)
    (hknown : w.position.pos ≠ .unknown)
    (h : w.position.route ≠ some r.route ∨ (∃ j, w.position.pos = .atStop j ∧ r.index < j)
      ∨ ∃ j, w.position.pos = .between j ∧ r.index ≤ j) :
    checkDepart r w = answerTime clsDepart .badState w := by
  have hnot : lastOfRoute w.tables.active r = false := by simp [lastOfRoute, hstop.1, Nat.ne_of_lt hlast]
  have hfits : ¬departFits w.position r = true := by
    rw [departFits_iff]
    rintro (hu | ⟨hroute, ⟨j, hj, hle⟩ | ⟨j, hj, hlt⟩⟩)
    · exact hknown hu
    · rcases h with h | ⟨i, hi, hlt⟩ | ⟨i, hi, -⟩
      · exact h hroute
      · cases hj.symm.trans hi; omega
      · cases hj.symm.trans hi
    · rcases h with h | ⟨i, hi, -⟩ | ⟨i, hi, hle⟩
      · exact h hroute
      · cases hj.symm.trans hi
      · cases hj.symm.trans hi; omega
  rw [checkDepart, if_neg (by simp [(reportNamesStop_iff w r).mpr ⟨b, hstop⟩, hnot]), if_neg hfits]

theorem checkArrive_badState {b : Bank} (hstop : w.hasStop b r) (hknown : w.position.pos ≠ .unknown)
    (h : w.position.route ≠ some r.route ∨ (∃ j, w.position.pos = .atStop j ∧ r.index ≤ j)
      ∨ ∃ j, w.position.pos = .between j ∧ r.index ≤ j) :
    checkArrive r w = answerTime clsArrive .badState w := by
  have hfits : ¬arriveFits w.position r = true := by
    rw [arriveFits_iff]
    rintro (hu | ⟨hroute, ⟨j, hj, hlt⟩ | ⟨j, hj, hle⟩⟩)
    · exact hknown hu
    · rcases h with h | ⟨i, hi, hle⟩ | ⟨i, hi, -⟩
      · exact h hroute
      · cases hj.symm.trans hi; omega
      · cases hj.symm.trans hi
    · rcases h with h | ⟨i, hi, -⟩ | ⟨i, hi, hle'⟩
      · exact h hroute
      · cases hj.symm.trans hi
      · cases hj.symm.trans hi; omega
  rw [checkArrive, if_neg (by simp [(reportNamesStop_iff w r).mpr ⟨b, hstop⟩]), if_neg hfits]

end

/-- R22: a position frame that is not well formed. -/
theorem takeReport_none {payload : List Byte} (s : State) (h : readReport payload = none) :
    takeDepart payload s = answerTime clsDepart .badArg s ∧ takeArrive payload s = answerTime clsArrive .badArg s
      ∧ takeSwitch payload s = answerTime clsSwitch .badArg s := by
  simp [takeDepart, takeArrive, takeSwitch, h]

/-- Settles O24: each row's refusals, the time applied wherever the frame is well formed. -/
theorem positionFramesRefused : Obligations.PositionFramesRefused := by
  refine ⟨fun payload s hframe hout hread => ?_, ?_⟩
  · have hexec : exec .time s = .next (settle (takeTime payload (takeFrame s))) :=
      dispatch_position_of_holdsFrame takeTime hframe hout
    rw [hexec, takeTime_none _ hread]
    rfl
  simp only [List.forall_mem_cons, List.not_mem_nil, false_imp_iff, implies_true, and_true]
  refine ⟨fun payload s hframe hout => ?depart, fun payload s hframe hout => ?arrive,
    fun payload s hframe hout => ?switch⟩
  case depart =>
    have hexec : exec .depart s = .next (settle (takeDepart payload (takeFrame s))) :=
      dispatch_position_of_holdsFrame takeDepart hframe hout
    refine ⟨fun hread => ?_, ?_⟩
    · rw [hexec, (takeReport_none _ hread).1]
      rfl
    rintro r _ hread rfl
    rw [hexec, takeDepart_some _ hread, applyTime_takeFrame]
    refine ⟨fun h => ?_, fun b hstop hlast _ hknown h => ?_⟩
    · rw [checkDepart_badArg (w := takeFrame (applyTime r.time s))]
      · rfl
      · refine h.imp (fun h b hb => h b (hasStop_of_applyTime hb)) ?_
        rintro ⟨-, b, hb, hlast⟩
        exact ⟨b, (applyTime_active r.time s).trans hb, hlast⟩
    · rw [checkDepart_badState (w := takeFrame (applyTime r.time s)) (hasStop_applyTime r.time hstop) (by simpa using hlast)
        (by simpa [takeFrame] using hknown) (by simpa [takeFrame] using h)]
      rfl
  case arrive =>
    have hexec : exec .arrive s = .next (settle (takeArrive payload (takeFrame s))) :=
      dispatch_position_of_holdsFrame takeArrive hframe hout
    refine ⟨fun hread => ?_, ?_⟩
    · rw [hexec, (takeReport_none _ hread).2.1]
      rfl
    rintro r _ hread rfl
    rw [hexec, takeArrive_some _ hread, applyTime_takeFrame]
    refine ⟨fun h => ?_, fun b hstop _ _ hknown h => ?_⟩
    · rw [checkArrive_badArg (w := takeFrame (applyTime r.time s))]
      · rfl
      · exact fun b hb => (h.resolve_right (by simp)) b (hasStop_of_applyTime hb)
    · rw [checkArrive_badState (w := takeFrame (applyTime r.time s)) (hasStop_applyTime r.time hstop)
        (by simpa [takeFrame] using hknown) (by simpa [takeFrame] using h)]
      rfl
  case switch =>
    have hexec : exec .switch s = .next (settle (takeSwitch payload (takeFrame s))) :=
      dispatch_position_of_holdsFrame takeSwitch hframe hout
    refine ⟨fun hread => ?_, ?_⟩
    · rw [hexec, (takeReport_none _ hread).2.2]
      rfl
    rintro r _ hread rfl
    rw [hexec, takeSwitch_some _ hread, applyTime_takeFrame]
    refine ⟨fun h => ?_, fun b _ _ hnot => absurd rfl hnot⟩
    rw [checkSwitch_badArg (w := takeFrame (applyTime r.time s))]
    · rfl
    · exact fun b hb => (h.resolve_right (by simp)) b (hasStop_of_applyTime hb)

/-! ## COACH and the minute tick -/

section
variable {payload : List Byte} {coach : Nat} {demand : Bits16} {s : State}

theorem takeCoach_within (hread : readCoach payload = some (coach, demand)) (h : coach ≤ 32) :
    takeCoach payload s
      = respond clsCoach (Reply.bare .ok) (s.setPosition { s.position with coach := coach, demand := demand }) := by
  simp [takeCoach, hread, lastCoach, h]

theorem takeCoach_above (hread : readCoach payload = some (coach, demand)) (h : 32 < coach) :
    takeCoach payload s = respond clsCoach (Reply.bare .badArg) s := by
  simp [takeCoach, hread, lastCoach, Nat.not_le.mpr h]

end

/-- Settles O25: the two sides of R33's limit. -/
theorem coachAndDemandSet : Obligations.CoachAndDemandSet := by
  intro payload coach demand s hframe hout hread
  have hexec : exec .coach s = .next (settle (takeCoach payload (takeFrame s))) :=
    dispatch_position_of_holdsFrame takeCoach hframe hout
  rw [hexec]
  refine ⟨fun h => ?_, fun h => ?_⟩
  · rw [takeCoach_within hread h]
    rfl
  · rw [takeCoach_above hread h]
    rfl

theorem tickClock_debt {s : State} (h : 0 < s.position.debt) :
    tickClock s = s.setPosition { s.position with debt := s.position.debt - 1 } := if_pos h

theorem tickClock_advances {s : State} (hdebt : s.position.debt = 0) (h : s.position.clock.minute < 1919) :
    tickClock s = clockChanged (s.setPosition
      { s.position with clock := { s.position.clock with minute := s.position.clock.minute + 1 } }) := by
  rw [tickClock, if_neg (by omega)]
  exact if_pos h

theorem tickClock_holds {s : State} (hdebt : s.position.debt = 0) (h : s.position.clock.minute = 1919) :
    tickClock s = s := by
  rw [tickClock, if_neg (by omega), if_neg (by simp [lastMinute, h])]

/-- Settles O21: the three cases of the tick, from the state whose time base has come to it. -/
theorem minuteTickMovesTheClock : Obligations.MinuteTickMovesTheClock := by
  rintro s w hpow rfl
  have hexec : exec .minuteTick s = .next (settle (tickClock
      { s with timeBase := max s.timeBase s.nextTick, nextTick := s.nextTick + 60000 })) :=
    act_occurs minuteTick hpow rfl
  rw [hexec]
  refine ⟨fun h => ?_, fun hdebt h => ?_, fun hdebt h => ?_⟩
  · rw [tickClock_debt (by exact h)]
    rfl
  · rw [tickClock_advances (by exact hdebt) (by exact h), clockChanged_eq]
    rfl
  · rw [tickClock_holds (by exact hdebt) (by exact h)]

/-! ## RUN_START -/

theorem addNotices_append (l k : List Notice) : ∀ p : TerminalPort, addNotices p (l ++ k) = addNotices (addNotices p l) k := by
  induction l with
  | nil => exact fun _ => rfl
  | cons n rest ih => exact fun p => ih _

/-- R156: within the limits of the notice queue, more notices are placed one after another. -/
theorem moreNotices_eq {s : State} (h : s.port.ok) (l : List Notice) : s.moreNotices l = addNotices s.port l :=
  (addNotices_eq l s.port h.2.1 h.2.2).symm

/-- R125: the notices of a clearing. -/
def State.clearedNotices (s : State) : List Notice :=
  s.memory.pendingList.map fun p =>
    { time := s.position.clock, body := .consumeResolved p.tag p.key .cleared none none }

theorem clearMemory_eq (s : State) :
    clearMemory s = (s.setMemory { s.memory with slots := [], pendingList := [], clearDeferred := false }).setPort
      (addNotices s.port s.clearedNotices) := by
  rw [clearMemory, clearedNotices_eq]
  rfl

theorem clearOrDefer_idle {s : State} (h : s.evaluator = .idle) : clearOrDefer s = clearMemory s :=
  if_pos (by rw [h]; rfl)

theorem clearOrDefer_busy {s : State} (h : s.evaluator ≠ .idle) :
    clearOrDefer s = s.setMemory { s.memory with clearDeferred := true } := by
  refine if_neg ?_
  cases he : s.evaluator with
  | idle => exact absurd he h
  | evaluating c => simp [Evaluator.isIdle]
  | awaiting c v w => simp [Evaluator.isIdle]

/-- R14, R34, R125: the state of a RUN_START before its entry is offered. -/
def State.runBegun (s : State) (run : Nat) : State :=
  { s with
    position := { s.position with run := run, history := [], wrapped := false, pos := .unknown, route := none,
                                  length := none }
    intake := { s.intake with queue := [], causes := { s.intake.causes with depth := false } }
    reader := { s.reader with taps := s.reader.taps ++ s.discardTaps }
    memory := if s.evaluator = .idle then
        { s.memory with slots := [], pendingList := [], clearDeferred := false }
      else { s.memory with clearDeferred := true }
    port := { s.moreNotices (s.discardNotices .runStart ++ (if s.evaluator = .idle then s.clearedNotices else [])) with
              input := none, responses := s.port.responses ++ [{ cls := 37, reply := none }] } }

/-- R156: notices placed behind others. -/
theorem moreNotices_append {s : State} (h : s.port.ok) (l k : List Notice) :
    addNotices (s.moreNotices l) k = s.moreNotices (l ++ k) := by
  rw [moreNotices_eq h, moreNotices_eq h, addNotices_append]

theorem startRun_eq {s : State} (h : s.Ok) (hroom : s.port.responses.length < 8) (run : Nat) :
    startRun run (takeFrame s)
      = offer .position ((s.runBegun run).withOutgoing { body := .runStart, cls := 37, content := [] }) := by
  have hheld : (newRun run (holdResponse clsRunStart (takeFrame s))).Ok :=
    (h.takeFrame.holdResponse hroom clsRunStart).newRun run
  refine congrArg (offer .position) ?_
  rw [emptyQueue_eq .runStart hheld]
  by_cases hidle : s.evaluator = .idle
  · refine (clearOrDefer_idle (by exact hidle)).trans ((clearMemory_eq _).trans ?_)
    have hport := moreNotices_append hheld.port ((takeFrame s).discardNotices .runStart) s.clearedNotices
    refine (congrArg (fun p => State.setPort p _) hport).trans ?_
    simp only [State.runBegun, if_pos hidle]
    rfl
  · refine (clearOrDefer_busy (by exact hidle)).trans ?_
    simp only [State.runBegun, if_neg hidle, List.append_nil]
    rfl

theorem takeRunStart_some {payload : List Byte} {run : Nat} (s : State) (h : readRunStart payload = some run)
    (hrun : run ≠ 0) : takeRunStart payload s = startRun run s := by
  simp [takeRunStart, h, hrun]

/-- Settles O26: the run begun, and its entry in each of the four places. -/
theorem runStartBeginsARun : Obligations.RunStartBeginsARun := by
  rintro payload run _ s m hframe hout hbounded hread hrun rfl hm
  have hexec : exec .runStart s = .next (settle (takeRunStart payload (takeFrame s))) :=
    dispatch_position_of_holdsFrame takeRunStart hframe hout
  obtain ⟨-, -, hroom, -⟩ := id hframe
  have hbegun : m = s.runBegun run := hm
  rw [hexec, takeRunStart_some _ hread hrun, startRun_eq ((bounded_iff s).mp hbounded) hroom, ← hbegun]
  have hout' : m.position.outgoing = none := by rw [hbegun]; exact hout
  subst hbegun
  refine ⟨fun h => ?_, fun h => ?_, fun h hp => ?_, fun h => ?_⟩
  · rw [offer_position_placeFree _ hout' (by exact h)]
    rfl
  · rw [offer_position_dropsEntries _ hout' (by exact h)]
    rfl
  · rw [offer_position_noPlace _ (by exact h) (by exact hp)]
    rfl
  · rw [offer_position_lastPlace _ hout' (by exact h)]
    rfl

end Sys2Proof.Machine
end

section
/-! SUPPORT. What the loss and the return of the supply leave in the flash, and the start-up choice (R57, R75, R150). -/

namespace Sys2Proof.Machine

/-! ## The start-up choice (R57) -/

/-- R56: a commit mark is valid when it was programmed to its end for the generation of the header it stands with. -/
theorem markValid_iff (b : Bank) : b.markValid = true ↔ ∃ g, b.committedAs g := by
  rcases hh : b.header with _ | h
  · simp [Bank.markValid, Bank.committedAs, hh]
  · rcases hm : b.mark with _ | ⟨g, done⟩
    · simp [Bank.markValid, Bank.committedAs, hh, hm]
    · cases done
      · simp [Bank.markValid, Bank.committedAs, hh, hm]
      · simpa [Bank.markValid, Bank.committedAs, hh, hm] using eq_comm

theorem markValid_eq_false_iff (b : Bank) : b.markValid = false ↔ ∀ g, ¬b.committedAs g := by
  rw [← Bool.not_eq_true, markValid_iff, not_exists]

theorem generation_of_committedAs {b : Bank} {g : Nat} (h : b.committedAs g) : b.generation = g := by
  obtain ⟨-, h⟩ := h
  rcases hh : b.header with _ | hd
  · simp [hh] at h
  · simpa [Bank.generation, hh] using h

theorem startRoles_atStart (t : TableStore) :
    startRoles t.bank0 t.bank1 t.atStart.bank0.role t.atStart.bank1.role := by
  refine ⟨fun g h0 h1 => ?_, fun h h0 h1 => ?_, fun g h h0 h1 hle => ?_, fun g h h0 h1 hlt => ?_, fun h0 h1 => ?_⟩
  · simp [TableStore.atStart, Bank.atStart, startupChoice, (markValid_iff _).mpr ⟨g, h0⟩,
      (markValid_eq_false_iff _).mpr h1]
  · simp [TableStore.atStart, Bank.atStart, startupChoice, (markValid_iff _).mpr ⟨h, h1⟩,
      (markValid_eq_false_iff _).mpr h0]
  · simp [TableStore.atStart, Bank.atStart, startupChoice, (markValid_iff _).mpr ⟨h, h1⟩,
      (markValid_iff _).mpr ⟨g, h0⟩, generation_of_committedAs h0, generation_of_committedAs h1, Nat.not_lt.mpr hle]
  · simp [TableStore.atStart, Bank.atStart, startupChoice, (markValid_iff _).mpr ⟨h, h1⟩,
      (markValid_iff _).mpr ⟨g, h0⟩, generation_of_committedAs h0, generation_of_committedAs h1, hlt]
  · simp [TableStore.atStart, Bank.atStart, startupChoice, (markValid_eq_false_iff _).mpr h0,
      (markValid_eq_false_iff _).mpr h1]

/-! ## POWER_ON -/

theorem exec_powerOn_dark {low : Bool} {s : State} (h : s.powered = false) :
    exec (.powerOn low) s = .next (boot low s) := by
  show execPowerOn low s = _
  rw [execPowerOn, if_neg (by simp [h])]

theorem exec_powerLoss {s : State} (h : s.powered = true) : exec .powerLoss s = .next (darken (cutFlash s)) := by
  show execPowerLoss s = _
  rw [execPowerLoss, if_pos h]

/-- Settles O9: reset's values by evaluation, and the boot of a dark part field by field. -/
theorem powerOnValues : Obligations.PowerOnValues := by
  refine ⟨by decide, fun low s h => ⟨boot low s, exec_powerOn_dark h, rfl, rfl⟩⟩

/-- Settles O10: the roles that `startupChoice` gives are the table's. -/
theorem startupChoiceMakesActive : Obligations.StartupChoice := by
  intro low s t h hexec
  have ht : boot low s = t := Host.Outcome.next.inj ((exec_powerOn_dark h).symm.trans hexec)
  rw [← ht]
  exact startRoles_atStart s.tables

/-! ## POWER_LOSS -/

/-- What the start-up choice keeps of a bank. -/
theorem atStart_bank (t : TableStore) (n : Nat) :
    (t.atStart.bank n).mem = (t.bank n).mem ∧ (t.atStart.bank n).header = (t.bank n).header
      ∧ (t.atStart.bank n).mark = (t.bank n).mark := by
  by_cases h : n = 0 <;> simp [TableStore.bank, h, TableStore.atStart, Bank.atStart]

theorem setBank_bank_same (t : TableStore) (n : Nat) (b : Bank) : (t.setBank n b).bank n = b := by
  by_cases h : n = 0 <;> simp [TableStore.bank, TableStore.setBank, h]

theorem setBank_bank_other (t : TableStore) (b : Bank) {n : Nat} (h : n ≤ 1) :
    (t.setBank n b).bank (1 - n) = t.bank (1 - n) := by
  rcases Nat.le_one_iff_eq_zero_or_eq_one.mp h with rfl | rfl <;> rfl

/-- R150: the slots of an entry torn, and no other. -/
theorem lookupAt_tearSlots (base n : Nat) : ∀ (slots : List (Nat × JSlot)), risingKeys slots = true → ∀ a,
    lookupAt (tearSlots base n slots) a = if base ≤ a ∧ a < base + n then some .torn else lookupAt slots a := by
  induction n with
  | zero =>
    intro slots _ a
    rw [if_neg (by omega)]
    rfl
  | succ n ih =>
    intro slots h a
    rw [tearSlots, ih _ (risingKeys_putAt slots (base + n) .torn h), lookupAt_putAt slots (base + n) a .torn h]
    by_cases hlast : a = base + n
    · rw [if_neg (by omega), if_pos hlast.symm, if_pos (by omega)]
    · rw [if_neg (Ne.symm hlast)]
      exact if_congr (by omega) rfl rfl

section
variable {s : State}

/-- R150: with nothing in flight in either flash, a loss cuts nothing. -/
theorem cutFlash_at_rest (ht : s.tables.op = none) (hj : s.journal.op = none) : cutFlash s = s.nextFree := by
  have htables : s.tables.cut s.free = s.tables := by rw [TableStore.cut, ht]
  have hslots : s.journal.cut s.free = s.journal.slots := by rw [Journal.cut, hj]
  rw [cutFlash, htables, hslots]
  rfl

theorem cut_program {e : Entry} {rest : List Entry} (hop : s.journal.op = some .program)
    (hq : s.journal.queue = e :: rest) (occurrence : Nat) :
    s.journal.cut occurrence = tearSlots s.journal.headPlace (entrySlots e.body) s.journal.slots := by
  rw [Journal.cut, hop, hq]

theorem darken_cutFlash_bank (n : Nat) :
    ((darken (cutFlash s)).tables.bank n).mem = ((s.tables.cut s.free).bank n).mem
      ∧ ((darken (cutFlash s)).tables.bank n).header = ((s.tables.cut s.free).bank n).header
      ∧ ((darken (cutFlash s)).tables.bank n).mark = ((s.tables.cut s.free).bank n).mark :=
  atStart_bank _ n

end

/-- Settles O11: nothing in flight, a header program, a mark program, and an entry program. -/
theorem powerLossKeepsFlash : Obligations.PowerLossKeepsFlash := by
  refine ⟨fun s hpow ht hj => ?atRest, fun n s hpow hn hop => ?header, fun n kind s hpow hn hop => ?mark,
    fun s e rest hpow hop hq hrising => ?entry⟩
  case atRest =>
    refine ⟨_, exec_powerLoss hpow, ?_, ?_⟩ <;> rw [cutFlash_at_rest ht hj] <;> rfl
  case header =>
    have hcut : s.tables.cut s.free = s.tables.setBank n { s.tables.bank n with header := none, mark := .erased } := by
      rw [TableStore.cut, hop]
    obtain ⟨hmem, hheader, hmark⟩ := darken_cutFlash_bank (s := s) n
    obtain ⟨hmem', hheader', hmark'⟩ := darken_cutFlash_bank (s := s) (1 - n)
    rw [hcut, setBank_bank_same] at hmem hheader hmark
    rw [hcut, setBank_bank_other _ _ hn] at hmem' hheader' hmark'
    exact ⟨_, exec_powerLoss hpow, hmem, hheader, hmark, hmem', hheader', hmark'⟩
  case mark =>
    have hcut : s.tables.cut s.free = s.tables.setBank n ((s.tables.bank n).cutMark s.free) := by
      rw [TableStore.cut, hop]
    obtain ⟨hmem, hheader, -⟩ := darken_cutFlash_bank (s := s) n
    obtain ⟨hmem', hheader', hmark'⟩ := darken_cutFlash_bank (s := s) (1 - n)
    rw [hcut, setBank_bank_same] at hmem hheader
    rw [hcut, setBank_bank_other _ _ hn] at hmem' hheader' hmark'
    exact ⟨_, exec_powerLoss hpow, hmem, hheader, hmem', hheader', hmark'⟩
  case entry =>
    refine ⟨_, exec_powerLoss hpow, fun a => ?_⟩
    show lookupAt (s.journal.cut s.free) a = _
    rw [cut_program hop hq]
    exact lookupAt_tearSlots _ _ _ hrising a

end Sys2Proof.Machine
end

section
/-! SUPPORT. The load conversation frame by frame: opening, the staging erase, records, closing, commit and abandon
(R59 to R74). -/

namespace Sys2Proof.Machine

/-- R153: a frame of the Table Store is dispatched while nothing of it is in flight. -/
theorem dispatch_tables_of_holdsFrame {cls : Nat} {payload : List Byte} {s : State} (f : List Byte → State → State)
    (h : s.holdsFrame cls payload) (hready : tablesReady s = true) :
    dispatch cls (tablesReady s) f s = .next (settle (f payload (takeFrame s))) :=
  dispatchWhen_of_holdsFrame f h hready rfl

section
variable {t : TableStore}

theorem engineNow_of_no_commit (h : t.commitDue = none) : t.engineNow = t.engine := by
  simp [TableStore.engineNow, h]

/-- A load engine that is not COMMITTING has no commit begun, and is where its own state says. -/
theorem engine_of_engineNow (h : t.engineNow ≠ .committing) : t.engine = t.engineNow := by
  cases hd : t.commitDue with
  | none => exact (engineNow_of_no_commit hd).symm
  | some kind => exact absurd (by simp [TableStore.engineNow, hd]) h

end

/-- A bank replaced leaves every field but the two banks. -/
theorem setBank_eq (t : TableStore) (n : Nat) (b : Bank) :
    t.setBank n b = { t with bank0 := if n = 0 then b else t.bank0, bank1 := if n = 0 then t.bank1 else b } := by
  by_cases h : n = 0 <;> simp [TableStore.setBank, h]

/-! ## LOAD_OPEN -/

theorem takeOpen_some {payload : List Byte} {raw : RawManifest} (s : State) (h : readManifest payload = some raw) :
    takeOpen payload s = checkManifest raw s := by
  simp [takeOpen, h]

/-- R60: the codes that a segment declaration may have. -/
theorem segDeclOf_isSome {x : RawSeg} (h : 1 ≤ x.kind ∧ x.kind ≤ 6 ∧ x.placement ≤ 1) : (segDeclOf x).isSome = true := by
  obtain ⟨hlow, hhigh, hplace⟩ := h
  obtain ⟨kind, hk⟩ : ∃ kind, segKindOf x.kind = some kind := by
    have hcodes : ∀ n ≤ 6, 1 ≤ n → (segKindOf n).isSome = true := by decide
    exact Option.isSome_iff_exists.mp (hcodes _ hhigh hlow)
  rcases Nat.le_one_iff_eq_zero_or_eq_one.mp hplace with hp | hp <;> simp [segDeclOf, hk, hp]

theorem refuseOpen_listed {raw : RawManifest} (h : ∀ x ∈ raw.segs, 1 ≤ x.kind ∧ x.kind ≤ 6 ∧ x.placement ≤ 1) :
    refuseOpen raw = Reply.bare .badState := by
  have hnone : unlistedCode raw = none := by
    refine List.findIdx?_eq_none_iff.mpr fun x hx => ?_
    obtain ⟨d, hd⟩ := Option.isSome_iff_exists.mp (segDeclOf_isSome (h x hx))
    simp [hd]
  rw [refuseOpen, hnone]

section
variable {raw : RawManifest} {s : State}

theorem checkManifest_not_idle (h : s.tables.engineNow ≠ .idle) :
    checkManifest raw s = respond clsLoadOpen (refuseOpen raw) s := if_neg h

theorem checkManifest_error {e : OpenRefusal} (h : s.tables.engineNow = .idle)
    (ho : openManifest s.tables.activeGeneration raw = .error e) :
    checkManifest raw s = respond clsLoadOpen (Reply.with e.status (be1 e.check ++ [e.position])) s := by
  rw [checkManifest, if_pos h, ho]

theorem checkManifest_ok {m : Manifest} {d : List DirEntry} (h : s.tables.engineNow = .idle)
    (ho : openManifest s.tables.activeGeneration raw = .ok (m, d)) : checkManifest raw s = openLoad m d s := by
  rw [checkManifest, if_pos h, ho]

end

/-- Settles O27: refused outside IDLE, refused by a check, or opened. -/
theorem loadOpenTaken : Obligations.LoadOpenTaken := by
  intro payload raw s hframe hready hread
  have hexec : exec .loadOpen s = .next (settle (takeOpen payload (takeFrame s))) :=
    dispatch_tables_of_holdsFrame takeOpen hframe hready
  rw [hexec, takeOpen_some _ hread]
  refine ⟨fun h hlisted => ?_, fun e h ho => ?_, fun m d h ho => ?_⟩
  · rw [checkManifest_not_idle (by exact h), refuseOpen_listed hlisted]
    rfl
  · rw [checkManifest_error (by exact h) (by exact ho)]
    rfl
  · rw [checkManifest_ok (by exact h) (by exact ho)]
    rfl

/-! ## The staging erase -/

section
variable {s : State} {l : Load}

theorem loadTarget_of_load {t : TableStore} (h : t.load = some l) : t.loadTarget = l.target := by
  simp [TableStore.loadTarget, h]

/-- R65, R66, R75: what STAGING_ERASE_START asks for. -/
theorem stagingEraseReady_of (hl : s.tables.load = some l) (hopening : s.tables.engine = .opening)
    (hop : s.tables.op = none) (hleft : s.tables.erased < 16) (hrole : (s.tables.bank l.target).role = .staging)
    (hpins : (s.tables.bank l.target).pins = 0) (hsafe : s.intake.causes.safe = false)
    (hres : s.intake.causes.restarting = false) : stagingEraseReady s = true := by
  simp [stagingEraseReady, loadTarget_of_load hl, hopening, hop, hleft, hrole, hpins, hsafe, hres, tableSectors,
    State.safe, State.restarting]

theorem startErase_ready (hl : s.tables.load = some l) (h : stagingEraseReady s = true) :
    startErase s = s.setTables { s.tables with op := some (.eraseSector l.target s.tables.erased) } := by
  rw [startErase, if_pos h, loadTarget_of_load hl]

theorem startErase_held (h : s.intake.causes.safe = true ∨ s.intake.causes.restarting = true) : startErase s = s := by
  refine if_neg ?_
  rcases h with h | h <;> simp [stagingEraseReady, State.safe, State.restarting, h]

/-- R65, R75: with sector 15 erased, the header program starts outside a restart. -/
theorem startHeader_eq (hl : s.tables.load = some l) (hdone : s.tables.erased = 16) :
    startHeader s = if s.intake.causes.restarting = true then s
      else s.setTables { s.tables with op := some (.headerProgram l.target) } := by
  by_cases h : s.intake.causes.restarting = true
  · rw [if_pos h]
    exact if_neg fun hc => by simp [State.restarting, h] at hc
  · rw [if_neg h, ← loadTarget_of_load hl]
    exact if_pos ⟨hdone, by simpa [State.restarting] using h⟩

theorem afterErase_abandoning (h : s.tables.abandoning = true) : afterErase s = abandonNow s := if_pos h

theorem afterErase_last (h : s.tables.abandoning = false) (hdone : s.tables.erased = 16) :
    afterErase s = startHeader s := by
  rw [afterErase, if_neg (by simp [h])]
  exact if_pos hdone

theorem afterErase_more (h : s.tables.abandoning = false) (hleft : s.tables.erased < 16) :
    afterErase s = startErase s := by
  rw [afterErase, if_neg (by simp [h])]
  exact if_neg (Nat.ne_of_lt hleft)

end

/-- R65, R66, R75: what follows the erase of sector `k` in an OPENING that nobody abandons. -/
theorem afterErase_eq {w : State} {l : Load} {k : Nat} (hl : w.tables.load = some l)
    (ha : w.tables.abandoning = false) (hopening : w.tables.engine = .opening) (hop : w.tables.op = none)
    (herased : w.tables.erased = k + 1) (hk : k < 16) (hrole : (w.tables.bank l.target).role = .staging)
    (hpins : (w.tables.bank l.target).pins = 0) :
    afterErase w = w.setTables
      (if w.intake.causes.restarting = true then w.tables
       else if k = 15 then { w.tables with op := some (.headerProgram l.target) }
       else if w.intake.causes.safe = true then w.tables
       else { w.tables with op := some (.eraseSector l.target (k + 1)) }) := by
  by_cases hlast : k = 15
  · have hdone : w.tables.erased = 16 := by rw [herased, hlast]
    rw [afterErase_last ha hdone, startHeader_eq hl hdone]
    by_cases hres : w.intake.causes.restarting = true
    · rw [if_pos hres, if_pos hres]
      rfl
    · rw [if_neg hres, if_neg hres, if_pos hlast]
  · have hleft : w.tables.erased < 16 := by omega
    rw [afterErase_more ha hleft, if_neg hlast]
    by_cases hres : w.intake.causes.restarting = true
    · rw [startErase_held (.inr hres), if_pos hres]
      rfl
    by_cases hsafe : w.intake.causes.safe = true
    · rw [startErase_held (.inl hsafe), if_neg hres, if_pos hsafe]
      rfl
    · have hready := stagingEraseReady_of hl hopening hop hleft hrole hpins (by simpa using hsafe) (by simpa using hres)
      rw [startErase_ready hl hready, if_neg hres, if_neg hsafe, herased]

theorem finishErase_of_op {n k : Nat} {s : State} (h : s.tables.op = some (.eraseSector n k)) :
    finishErase s = afterErase (sectorErased n k s) := by
  simp [finishErase, sectorInFlight, h]

/-- R65, R74: the header stands in the bank, and an abandon that waited follows, or the load is LOADING. -/
theorem finishHeader_of_op {n : Nat} {s : State} (h : s.tables.op = some (.headerProgram n)) :
    finishHeader s = if s.tables.abandoning = true then abandonNow (headerProgrammed n s)
      else becomeLoading (headerProgrammed n s) := by
  simp only [finishHeader, headerInFlight, h, headerProgrammed, setBank_eq]
  rfl

/-- R61, R65: a sector erased, the header area with sector 0. -/
theorem eraseSector_eq (b : Bank) (k : Nat) :
    b.eraseSector k = { b with mem := dropRange b.mem (k * 4096) ((k + 1) * 4096)
                               header := if k = 0 then none else b.header
                               mark := if k = 0 then .erased else b.mark } := by
  by_cases h : k = 0 <;> simp [Bank.eraseSector, h, tableSectorBytes]

/-- R65: what stands after the erase of one sector of the target bank. -/
theorem sectorErased_target (k : Nat) (s : State) (n : Nat) :
    ((sectorErased n k s).tables.bank n).role = (s.tables.bank n).role
      ∧ ((sectorErased n k s).tables.bank n).pins = (s.tables.bank n).pins := by
  have hbank : (sectorErased n k s).tables.bank n = (s.tables.bank n).eraseSector k :=
    setBank_bank_same s.tables n _
  rw [hbank, eraseSector_eq]
  exact ⟨rfl, rfl⟩

/-- Settles O29: the start of an erase, its completion, and the completion of the header program. -/
theorem stagingEraseProceeds : Obligations.StagingEraseProceeds := by
  intro l s hpow hl
  refine ⟨fun hopening hop hleft hrole hpins hsafe hres => ?start, fun k T hopening hop herased hk ha hrole hpins hT => ?done,
    fun hop ha => ?header⟩
  case start =>
    have hready := stagingEraseReady_of hl hopening hop hleft hrole hpins hsafe hres
    have hexec : exec .stagingEraseStart s = .next (settle (startErase s)) := act_occurs startErase hpow hready
    rw [hexec, startErase_ready hl hready]
    rfl
  case done =>
    have hexec : exec .tableSectorEraseDone s = .next (settle (finishErase s)) :=
      act_occurs finishErase hpow (by rw [hop]; rfl)
    have hstate : sectorErased l.target k s = s.setTables T := by
      rw [hT, ← eraseSector_eq, sectorErased, herased]
    obtain ⟨hrole', hpins'⟩ := sectorErased_target k s l.target
    rw [hstate] at hrole' hpins'
    have hTl : T.load = some l := by rw [hT, setBank_eq]; exact hl
    have hTa : T.abandoning = false := by rw [hT, setBank_eq]; exact ha
    have hTo : T.engine = .opening := by rw [hT, setBank_eq]; exact hopening
    have hTe : T.erased = k + 1 := by rw [hT]
    have hTop : T.op = none := by rw [hT]
    rw [hexec, finishErase_of_op hop, hstate]
    rw [afterErase_eq (w := s.setTables T) hTl hTa hTo hTop hTe hk (hrole'.trans hrole) (hpins'.trans hpins)]
    rfl
  case header =>
    have hexec : exec .headerProgramDone s = .next (settle (finishHeader s)) :=
      act_occurs finishHeader hpow (by rw [hop]; rfl)
    rw [hexec, finishHeader_of_op hop, if_neg (by simp [ha])]
    simp only [becomeLoading, headerProgrammed, setBank_eq, hl]
    rfl

/-! ## Records -/

section
variable {cls : Nat} {f : State → State} {s : State}

theorem inLoading_opening (h : s.tables.engineNow = .opening) : inLoading cls f s = respond cls (Reply.bare .busy) s := by
  rw [inLoading, h]

theorem inLoading_loading (h : s.tables.engineNow = .loading) : inLoading cls f s = f s := by
  rw [inLoading, h]

theorem inLoading_elsewhere (ho : s.tables.engineNow ≠ .opening) (hl : s.tables.engineNow ≠ .loading) :
    inLoading cls f s = respond cls (Reply.bare .badState) s := by
  cases h : s.tables.engineNow with
  | opening => exact absurd h ho
  | loading => exact absurd h hl
  | idle => rw [inLoading, h]
  | closed => rw [inLoading, h]
  | scheduled => rw [inLoading, h]
  | committing => rw [inLoading, h]

end

section
variable {l : Load} {f : RecordFrame} {e : DirEntry} {s : State}

theorem recordFrameEntry_ok (hd : l.directory[f.position]? = some e) (hlow : 1 ≤ f.count) (hhigh : f.count ≤ 32)
    (hfits : f.first + f.count ≤ e.count) (hlen : f.data.length = f.count * recordSize e.kind e.count) :
    recordFrameEntry l f = some e := by
  simp only [recordFrameEntry, hd]
  rw [if_neg (by omega), if_neg (by omega), if_neg (by simp [hlen])]

theorem recordFrameEntry_refused
    (h : ∀ e, l.directory[f.position]? = some e → f.count = 0 ∨ 32 < f.count ∨ e.count < f.first + f.count
      ∨ f.data.length ≠ f.count * recordSize e.kind e.count) : recordFrameEntry l f = none := by
  cases hd : l.directory[f.position]? with
  | none => simp only [recordFrameEntry, hd]
  | some e =>
    simp only [recordFrameEntry, hd]
    by_cases hcount : f.count = 0 ∨ 32 < f.count
    · rw [if_pos hcount]
    by_cases hbeyond : e.count < f.first + f.count
    · rw [if_neg hcount, if_pos hbeyond]
    · rw [if_neg hcount, if_neg hbeyond, if_pos]
      rcases h e hd with h | h | h | h
      · exact absurd (.inl h) hcount
      · exact absurd (.inr h) hcount
      · exact absurd h hbeyond
      · exact h

theorem takeRecord_some {payload : List Byte} (s : State) (h : readRecordFrame payload = some f) :
    takeRecord payload s = inLoading clsLoadRecord (loadRecords f) s := by
  simp [takeRecord, h]

theorem loadRecords_refused (hl : s.tables.load = some l) (h : recordFrameEntry l f = none) :
    loadRecords f s = respond clsLoadRecord (Reply.bare .badArg) s := by
  simp [loadRecords, hl, h]

theorem loadRecords_taken (hl : s.tables.load = some l) (h : recordFrameEntry l f = some e) :
    loadRecords f s = compareRecords e l f s := by
  simp [loadRecords, hl, h]

theorem compareRecords_conflict {i : Nat}
    (h : recordConflict (s.tables.bank l.target).mem e (l.receivedAt f.position) (frameRecords e f) = some i) :
    compareRecords e l f s = respond clsLoadRecord (Reply.with .conflict (be2 i)) s := by
  simp only [compareRecords, h]

theorem compareRecords_present
    (h : recordConflict (s.tables.bank l.target).mem e (l.receivedAt f.position) (frameRecords e f) = none)
    (hnew : newRecords (l.receivedAt f.position) (frameRecords e f) = []) :
    compareRecords e l f s = respond clsLoadRecord (recordContent 0 f.count) s := by
  simp only [compareRecords, h, hnew]
  rfl

theorem compareRecords_new
    (h : recordConflict (s.tables.bank l.target).mem e (l.receivedAt f.position) (frameRecords e f) = none)
    (hnew : newRecords (l.receivedAt f.position) (frameRecords e f) ≠ []) :
    compareRecords e l f s = holdResponse clsLoadRecord
      (s.setTables
        { s.tables with
          op := some (.recordProgram l.target f.position (newRecords (l.receivedAt f.position) (frameRecords e f))
            (f.count - (newRecords (l.receivedAt f.position) (frameRecords e f)).length)) }) := by
  simp only [compareRecords, h]
  exact if_neg (by simpa using hnew)

/-- R68: no received record of the frame differs from what is read of it. -/
theorem recordConflict_eq_none {mem : List Host.Cell} {old : List Nat} {rs : List (Nat × List Byte)}
    (h : ∀ r ∈ rs, r.1 ∈ old → readPart e.kind 0 (recordBytes mem e r.1) = readPart e.kind 0 r.2) :
    recordConflict mem e old rs = none := by
  rw [recordConflict, Option.map_eq_none_iff, List.find?_eq_none]
  intro r hr
  by_cases hold : r.1 ∈ old
  · simp [h r hr hold]
  · simp [hold]

theorem finishRecords_of_op {n position present : Nat} {rs : List (Nat × List Byte)}
    (hop : s.tables.op = some (.recordProgram n position rs present)) (hl : s.tables.load = some l)
    (hd : l.directory[position]? = some e) :
    finishRecords s = produce clsLoadRecord (recordContent rs.length present) (recordsProgrammed n position rs l e s) := by
  simp only [finishRecords, hop, hl, hd]

end

/-- Settles O30: by the load engine's state, then by R67's checks, then by R68's comparison. -/
theorem recordsLoaded : Obligations.RecordsLoaded := by
  refine ⟨fun payload f s hframe hready hread => ?_, fun n position present rs l e s hpow hop hl hd => ?_⟩
  · have hexec : exec .loadRecord s = .next (settle (takeRecord payload (takeFrame s))) :=
      dispatch_tables_of_holdsFrame takeRecord hframe hready
    rw [hexec, takeRecord_some _ hread]
    refine ⟨fun h => ?opening, fun ho hload => ?elsewhere, fun l h hl => ⟨fun hbad => ?refused, ?taken⟩⟩
    case opening =>
      rw [inLoading_opening (by exact h)]
      rfl
    case elsewhere =>
      rw [inLoading_elsewhere (by exact ho) (by exact hload)]
      rfl
    case refused =>
      rw [inLoading_loading (by exact h), loadRecords_refused (by exact hl) (recordFrameEntry_refused hbad)]
      rfl
    case taken =>
      rintro e _ _ _ hd hlow hhigh hfits hlen rfl rfl rfl
      rw [inLoading_loading (by exact h), loadRecords_taken (by exact hl) (recordFrameEntry_ok hd hlow hhigh hfits hlen)]
      refine ⟨fun i hi => ?_, fun hsame => ⟨fun hnew => ?_, fun hnew => ?_⟩⟩
      · rw [compareRecords_conflict (by exact hi)]
        rfl
      · rw [compareRecords_present (s := takeFrame s) (recordConflict_eq_none hsame) (by exact hnew)]
        rfl
      · rw [compareRecords_new (s := takeFrame s) (recordConflict_eq_none hsame) (by exact hnew)]
        rfl
  · have hexec : exec .recordProgramDone s = .next (settle (finishRecords s)) :=
      act_occurs finishRecords hpow (by rw [hop]; rfl)
    rw [hexec, finishRecords_of_op hop hl hd]
    rfl

/-! ## Closing -/

section
variable {l : Load} {s : State}

theorem closeLoad_missing {at_ : Nat × Nat} (hl : s.tables.load = some l)
    (h : missingRecord 0 l.directory l.received = some at_) :
    closeLoad s = respond clsLoadClose (closeFailed 1 at_) s := by
  simp [closeLoad, hl, h]

theorem closeLoad_complete (hl : s.tables.load = some l) (h : missingRecord 0 l.directory l.received = none) :
    closeLoad s = holdResponse clsLoadClose (s.setTables { s.tables with checking := true }) := by
  simp [closeLoad, hl, h]

theorem checkResult_of_load (hl : s.tables.load = some l) :
    checkResult s.tables = contentFailure l.manifest (s.tables.bank l.target).mem 0 l.directory := by
  simp [checkResult, hl]

theorem finishCheck_failed {at_ : Nat × Nat} (h : checkResult s.tables = some at_) :
    finishCheck s = produce clsLoadClose (closeFailed 2 at_) (s.setTables { s.tables with checking := false }) := by
  simp [finishCheck, h]

theorem finishCheck_passed (h : checkResult s.tables = none) :
    finishCheck s
      = produce clsLoadClose (Reply.bare .ok) (s.setTables { s.tables with checking := false, engine := .closed }) := by
  simp [finishCheck, h]

end

/-- Settles O32: the completeness check at the dispatch, the content check at its completion. -/
theorem loadClosed : Obligations.LoadClosed := by
  refine ⟨fun s hframe hready => ?_, fun l s hpow hchecking hl => ?_⟩
  · have hexec : exec .loadClose s = .next (settle (inLoading clsLoadClose closeLoad (takeFrame s))) :=
      dispatch_tables_of_holdsFrame takeClose hframe hready
    rw [hexec]
    refine ⟨fun h => ?_, fun ho hload => ?_, fun l h hl => ⟨fun position index hm => ?_, fun hm => ?_⟩⟩
    · rw [inLoading_opening (by exact h)]
      rfl
    · rw [inLoading_elsewhere (by exact ho) (by exact hload)]
      rfl
    · rw [inLoading_loading (by exact h), closeLoad_missing (by exact hl) hm]
      rfl
    · rw [inLoading_loading (by exact h), closeLoad_complete (by exact hl) hm]
      rfl
  · have hexec : exec .contentCheckDone s = .next (settle (finishCheck s)) := act_occurs finishCheck hpow hchecking
    rw [hexec]
    refine ⟨fun position index h => ?_, fun h => ?_⟩
    · rw [finishCheck_failed ((checkResult_of_load hl).trans h)]
      rfl
    · rw [finishCheck_passed ((checkResult_of_load hl).trans h)]
      rfl

/-! ## Taking a commit -/

theorem commitTaken_iff (t : TableStore) : commitTaken t = true ↔ t.engineNow = .closed ∨ t.engineNow = .scheduled := by
  simp [commitTaken]

section
variable {payload : List Byte} {t : Time} {s : State}

theorem takeCommitNow_taken (hread : readCommitNow payload = true) (h : commitTaken s.tables = true) :
    takeCommitNow payload s = commitAtOnce s := by
  simp [takeCommitNow, hread, h]

theorem takeCommitNow_refused (hread : readCommitNow payload = true) (h : ¬commitTaken s.tables = true) :
    takeCommitNow payload s = respond clsLoadCommit (Reply.bare .badState) s := by
  simp [takeCommitNow, hread, h]

theorem takeCommitTime_refused (hread : readCommitTime payload = some t) (h : ¬commitTaken s.tables = true) :
    takeCommitTime payload s = respond clsLoadCommit (Reply.bare .badState) s := by
  simp [takeCommitTime, hread, h]

theorem takeCommitTime_reached (hread : readCommitTime payload = some t) (h : commitTaken s.tables = true)
    (ht : t.atOrBefore s.position.clock = true) : takeCommitTime payload s = commitAtOnce s := by
  simp [takeCommitTime, hread, h, ht]

theorem takeCommitTime_later (hread : readCommitTime payload = some t) (h : commitTaken s.tables = true)
    (ht : s.position.clock.before t = true) : takeCommitTime payload s = schedule t s := by
  have hnot : t.atOrBefore s.position.clock = false := by simp [Time.atOrBefore, ht]
  simp [takeCommitTime, hread, h, hnot]

/-- R70: the mode byte tells the two rows of LOAD_COMMIT apart. -/
theorem commitModeNow_of_readCommitNow (h : readCommitNow payload = true) : commitModeNow payload = true := by
  simp only [readCommitNow, Bool.and_eq_true] at h
  exact h.2

theorem commitModeNow_of_readCommitTime (h : readCommitTime payload = some t) : commitModeNow payload = false := by
  by_cases hmode : u8 payload 0 = 1
  · simp [commitModeNow, hmode]
  · simp [readCommitTime, hmode] at h

end

/-- Settles O33: each row by its mode, its time and the load engine's state, and then the mark program. -/
theorem loadCommitTaken : Obligations.CommitTaken := by
  refine ⟨fun payload s hframe hready => ⟨fun hread => ?now, fun t hread => ?time⟩,
    fun kind l s hpow hdue hop hl => ?begins⟩
  case now =>
    have hexec : exec .loadCommitNow s = .next (settle (takeCommitNow payload (takeFrame s))) :=
      dispatchWhen_of_holdsFrame (takes := commitModeNow) takeCommitNow hframe hready
        (commitModeNow_of_readCommitNow hread)
    rw [hexec]
    refine ⟨fun h => ?_, fun hc hs => ?_⟩
    · rw [takeCommitNow_taken (s := takeFrame s) hread ((commitTaken_iff s.tables).mpr h)]
      rfl
    · rw [takeCommitNow_refused (s := takeFrame s) hread (by rw [commitTaken_iff]; exact not_or.mpr ⟨hc, hs⟩)]
      rfl
  case time =>
    have hexec : exec .loadCommitTime s = .next (settle (takeCommitTime payload (takeFrame s))) :=
      dispatchWhen_of_holdsFrame (takes := fun p => !commitModeNow p) takeCommitTime hframe hready
        (by simp [commitModeNow_of_readCommitTime hread])
    rw [hexec]
    refine ⟨fun h => ⟨fun ht => ?_, fun ht => ?_⟩, fun hc hs => ?_⟩
    · rw [takeCommitTime_reached (s := takeFrame s) hread ((commitTaken_iff s.tables).mpr h) (by exact ht)]
      rfl
    · rw [takeCommitTime_later (s := takeFrame s) hread ((commitTaken_iff s.tables).mpr h) (by exact ht)]
      rfl
    · rw [takeCommitTime_refused (s := takeFrame s) hread (by rw [commitTaken_iff]; exact not_or.mpr ⟨hc, hs⟩)]
      rfl
  case begins =>
    have hexec : exec .commitBegin s = .next (settle (startMark s)) :=
      act_occurs startMark hpow (by simp [hdue, hop])
    rw [hexec, startMark]
    simp only [hdue, loadTarget_of_load hl]
    rfl

/-! ## Abandoning -/

section
variable {s : State}

theorem abandonLoad_refused (h : s.tables.engineNow = .idle ∨ s.tables.engineNow = .committing) :
    abandonLoad s = respond clsLoadAbandon (Reply.bare .badState) s := by
  rcases h with h | h <;> rw [abandonLoad, h]

theorem abandonLoad_atOnce
    (h : s.tables.engineNow = .loading ∨ s.tables.engineNow = .closed ∨ s.tables.engineNow = .scheduled) :
    abandonLoad s = respond clsLoadAbandon (abandonReply s.tables.engineNow) (s.setTables s.tables.endLoad) := by
  have hengine : s.tables.engine = s.tables.engineNow := engine_of_engineNow (by rcases h with h | h | h <;> simp [h])
  rw [← hengine]
  rcases h with h | h | h <;> rw [abandonLoad, h] <;> rfl

theorem abandonLoad_opening_atRest (h : s.tables.engineNow = .opening) (hop : s.tables.op = none) :
    abandonLoad s = respond clsLoadAbandon (abandonReply .opening) (abandonOpen s) := by
  rw [abandonLoad, h]
  exact if_pos (by simp [hop])

theorem abandonLoad_opening_busy (h : s.tables.engineNow = .opening) (hop : s.tables.op ≠ none) :
    abandonLoad s = holdResponse clsLoadAbandon (s.setTables { s.tables with abandoning := true }) := by
  rw [abandonLoad, h]
  exact if_neg (by simpa using hop)

end

/-- Settles O35: LOAD_ABANDON by the load engine's state, and the two completions that an abandon waited for. -/
theorem loadAbandoned : Obligations.LoadAbandoned := by
  rintro _ s rfl
  refine ⟨fun hframe hready => ?_, ?_⟩
  · have hexec : exec .loadAbandon s = .next (settle (abandonLoad (takeFrame s))) :=
      dispatch_tables_of_holdsFrame takeAbandon hframe hready
    rw [hexec]
    refine ⟨fun h => ?_, fun h => ?_, fun h hop => ?_, fun h hop => ?_⟩
    · rw [abandonLoad_refused (by exact h)]
      rfl
    · rw [abandonLoad_atOnce (by exact h)]
      rfl
    · rw [abandonLoad_opening_atRest (by exact h) (by exact hop)]
      rfl
    · rw [abandonLoad_opening_busy (by exact h) (by exact hop)]
      rfl
  · rintro _ hpow ha rfl
    refine ⟨fun n k hop => ?_, fun n l hop hl => ?_⟩
    · have hexec : exec .tableSectorEraseDone s = .next (settle (finishErase s)) :=
        act_occurs finishErase hpow (by rw [hop]; rfl)
      have ha' : (sectorErased n k s).tables.abandoning = true := by
        simp only [sectorErased, setBank_eq]
        exact ha
      rw [hexec, finishErase_of_op hop, afterErase_abandoning ha']
      simp only [sectorErased, setBank_eq]
      rfl
    · have hexec : exec .headerProgramDone s = .next (settle (finishHeader s)) :=
        act_occurs finishHeader hpow (by rw [hop]; rfl)
      rw [hexec, finishHeader_of_op hop, if_pos ha]
      simp only [headerProgrammed, setBank_eq, hl]
      rfl

end Sys2Proof.Machine
end

section
/-! SUPPORT. An evaluation begun, its checks completed, its verdict issued (R76 to R97, R120, R125). -/

namespace Sys2Proof.Machine

/-! ## EVALUATION_BEGIN -/

section
variable {s : State} {p : Presentation} {rest : List Presentation}

theorem beginEvaluation_cons (hq : s.intake.queue = p :: rest) :
    Machine.beginEvaluation s = setQueue rest
      ((s.setEvaluator (.evaluating (contextOf p s))).setTables (s.tables.onBank Bank.pin s.tables.activeIndex)) := by
  simp only [Machine.beginEvaluation, hq]

/-- R58: one pin more on the ACTIVE bank, if any. -/
theorem onBank_pin (t : TableStore) (n : Option Nat) :
    t.onBank Bank.pin n = match n with
      | none => t
      | some n => t.setBank n { t.bank n with pins := (t.bank n).pins + 1 } := by
  cases n <;> rfl

end

/-- Settles O36: the command occurs under R77's conditions, and the queue's head goes into evaluation. -/
theorem evaluationBegins : Obligations.EvaluationBegins := by
  intro p rest s hpow hidle hq hsafe hshut hres hmode
  have hexec : exec .evaluationBegin s = .next (settle (Machine.beginEvaluation s)) :=
    act_occurs Machine.beginEvaluation hpow (by
      simp [evaluationMayBegin, Evaluator.isIdle, State.safe, State.restarting, hidle, hq, hsafe, hshut, hres, hmode])
  rw [hexec, beginEvaluation_cons hq, setQueue_eq, onBank_pin]
  rfl

/-! ## CHECK_COMPLETION -/

/-- The state in which the checks are complete and the VERDICT entry stands in the Evaluator's place. -/
def State.withVerdict (s : State) (c : EvalContext) (v : Verdict) (slots : List (Nat × Sighting)) : State :=
  (s.setMemory { s.memory with slots := slots }).setEvaluator (.awaiting c v .place)

/-- R93: the VERDICT entry of an evaluation. -/
def verdictDraft (c : EvalContext) (v : Verdict) : Draft :=
  { body := .verdict v c.pres.source c.pres.medium c.pres.key c.pres.product, run := some c.snap.run }

theorem draftOf_withVerdict (s : State) (c : EvalContext) (v : Verdict) (slots : List (Nat × Sighting)) :
    draftOf (s.withVerdict c v slots) .evaluator = some (verdictDraft c v) := rfl

theorem completeChecks_eq {s : State} {c : EvalContext} {v : Verdict} {slots : List (Nat × Sighting)}
    (he : s.evaluator = .evaluating c) (hw : (v, slots) = checkWork c s) :
    completeChecks s = offer .evaluator (s.withVerdict c v slots) := by
  simp only [completeChecks, he, Evaluator.working, ← hw]
  rfl

/-- Settles O37: the entry offered meets one of the four places. -/
theorem checksComplete : Obligations.ChecksComplete := by
  rintro c v slots _ s m hpow he hw rfl rfl
  have hexec : exec .checkCompletion s = .next (settle (completeChecks s)) :=
    act_occurs completeChecks hpow (by rw [he]; rfl)
  have hdraft := draftOf_withVerdict s c v slots
  rw [hexec, completeChecks_eq he hw]
  refine ⟨fun h => ?_, fun h => ?_, fun h hp => ?_, fun h => ?_⟩
  · rw [offer_of_placeFree hdraft (by exact h)]
    rfl
  · rw [offer_of_dropsEntries .evaluator (s := s.withVerdict c v slots) (by exact h)]
    rfl
  · rw [offer_of_noPlace (s := s.withVerdict c v slots) (by exact h) (by exact hp)]
    rfl
  · rw [offer_of_lastPlace hdraft (by exact h), exhaust_of_nobody_waiting (by exact h.2.2.2.1)]
    rfl

/-! ## VERDICT_ISSUE -/

section
variable {s : State} {c : EvalContext} {v : Verdict} {w : JournalWait}

/-- R95, R139: when the journal policy lets a verdict go out. -/
theorem issuable_of {p : Policy} (h : w = .dropped ∨ (∃ n, w = .completed n) ∨ (p = .early ∧ ∃ n, w = .queued n)) :
    issuable p w = true := by
  rcases h with rfl | ⟨n, rfl⟩ | ⟨rfl, n, rfl⟩ <;> rfl

theorem verdictToIssue_of (he : s.evaluator = .awaiting c v w) (hi : issuable s.settings.policy w = true) :
    verdictToIssue s = some (c, v) := by
  simp only [verdictToIssue, he]
  exact if_pos hi

theorem issueVerdict_eq (h : verdictToIssue s = some (c, v)) :
    issueVerdict s = endEvaluation (pendConsume c v (requestPattern v.cls (handTap c v (handVerdict v s)))) := by
  simp only [issueVerdict, h]

/-- R96: the VERDICT frame, the tap result and the pattern request. -/
def State.handedOver (s : State) (c : EvalContext) (v : Verdict) : State :=
  { s with
    reader := if c.pres.source = .reader then
        { s.reader with taps := s.reader.taps ++ [.verdict v.tag v.cls v.reason v.amount v.consume] }
      else s.reader
    annunciator := s.annunciator.take s.timeBase (patternFor s.tables.active v.cls)
    port := { s.port with verdicts := s.port.verdicts ++ [v] } }

theorem handedOver_eq (s : State) (c : EvalContext) (v : Verdict) :
    requestPattern v.cls (handTap c v (handVerdict v s)) = s.handedOver c v := by
  cases hsrc : c.pres.source <;> simp only [handTap, hsrc, State.handedOver] <;> rfl

/-- R96, R120: the trip of a consume YES. -/
theorem pendConsume_eq (s : State) (c : EvalContext) (v : Verdict) :
    pendConsume c v s = s.setMemory
      { s.memory with
        slots := if v.consume then setTrip s.memory.slots c.pres.key .pending else s.memory.slots
        pendingList := if v.consume then
            s.memory.pendingList ++ [{ tag := v.tag, key := c.pres.key, expiry := s.timeBase + 3000 }]
          else s.memory.pendingList } := by
  cases h : v.consume
  · simp [pendConsume, h, State.setMemory]
  · simp [pendConsume, h, consumeWindowMs]

/-- R58, R97: the pin released and the Evaluator IDLE. -/
theorem releasePin_idle (s : State) (n : Option Nat) :
    releasePin n (s.setEvaluator .idle)
      = { s with
          tables := match n with
            | none => s.tables
            | some n => s.tables.setBank n
                { s.tables.bank n with
                  pins := (s.tables.bank n).pins - 1
                  role := if (s.tables.bank n).role = .retiring ∧ (s.tables.bank n).pins - 1 = 0 then .staging
                    else (s.tables.bank n).role }
          evaluator := .idle } := by
  cases n <;> rfl

theorem endEvaluation_of_awaiting (he : s.evaluator = .awaiting c v w) :
    endEvaluation s = if s.memory.clearDeferred then clearMemory (releasePin c.bank (s.setEvaluator .idle))
      else releasePin c.bank (s.setEvaluator .idle) := by
  rw [endEvaluation_eq, he]
  rfl

end

/-- Settles O38: the verdict handed over and its trip PENDING, then the end of the evaluation with or without a deferred
clearing. -/
theorem verdictIssued : Obligations.VerdictIssued := by
  rintro c v w _ _ s m hpow he hw hnotices hdropped rfl rfl hm
  have hissue := verdictToIssue_of he (issuable_of hw)
  have hexec : exec .verdictIssue s = .next (settle (issueVerdict s)) :=
    act_occurs issueVerdict hpow (by rw [hissue]; rfl)
  rw [hexec, issueVerdict_eq hissue, handedOver_eq, pendConsume_eq, endEvaluation_of_awaiting (by exact he),
    releasePin_idle]
  refine ⟨fun h => ?_, fun h => ?_⟩
  · rw [if_neg (by simp [State.handedOver, h]), hm]
    rfl
  · have hport : m.port.notices.length ≤ 16 ∧ m.port.dropped ≤ 255 := by
      rw [hm]
      exact ⟨hnotices, hdropped⟩
    rw [if_pos (by exact h), clearMemory_eq, State.moreNotices, ← addNotices_eq _ m.port hport.1 hport.2, hm]
    rfl

end Sys2Proof.Machine
end

section
/-! SUPPORT. The commit completed (R36, R72, R73): the banks, the COMMIT entry, the notice and the position check. -/

namespace Sys2Proof.Machine

/-! ## The position check (R36) -/

/-- R36: when a position loses its meaning against a newly active bank. -/
theorem positionLostIn_iff (b : Bank) (pos : PosState) (route length : Nat) :
    positionLostIn b pos route length = true ↔ routePresent b route = false ∨ routeLength b route ≠ length
      ∨ routeLength b route < pos.reach := by
  simp [positionLostIn, or_assoc]

/-- R36: the POSITION_LOST notice and the position UNKNOWN. -/
def State.lostPosition (y : State) (route length generation : Nat) : State :=
  { y.noticed (.positionLost y.position.pos route length generation) with
    position := { y.position with pos := .unknown, route := none, length := none } }

section
variable {y : State} {b : Bank}

theorem checkPosition_eq (hactive : y.tables.active = some b) :
    checkPosition y = match y.position.route, y.position.length with
      | some route, some length =>
        if y.position.pos ≠ .unknown ∧ (routePresent b route = false ∨ routeLength b route ≠ length
            ∨ routeLength b route < y.position.pos.reach) then y.lostPosition route length b.generation
        else y
      | _, _ => y := by
  cases hr : y.position.route with
  | none => simp only [checkPosition, hr]
  | some route =>
    cases hl : y.position.length with
    | none => simp only [checkPosition, hr, hl]
    | some length =>
      simp only [checkPosition, hr, hl, hactive, positionLostIn_iff, TableStore.activeGeneration, Option.map_some,
        Option.getD_some]
      rfl

end

/-! ## The banks after a commit (R72) -/

/-- R72: the Table Store of a completed commit, its entry not yet offered. -/
def TableStore.afterCommit (t : TableStore) (n : Nat) : TableStore :=
  { (t.setBank n { t.bank n with role := .active, mark := .programmed (t.bank n).generation true }).setBank (1 - n)
      { t.bank (1 - n) with
        role := if (t.bank (1 - n)).role = .active then (if 0 < (t.bank (1 - n)).pins then .retiring else .staging)
          else (t.bank (1 - n)).role } with
    engine := .idle, load := none, erased := 0, schedule := none, commitDue := none, op := none, abandoning := false }

theorem otherRole_ne_active (b : Bank) : b.otherRole ≠ .active := by
  unfold Bank.otherRole
  by_cases hrole : b.role = .active
  · rw [if_pos hrole]
    by_cases hpins : 0 < b.pins <;> simp [hpins]
  · rw [if_neg hrole]
    exact hrole

section
variable {t : TableStore} {n : Nat}

theorem committedTables_eq (kind : CommitKind) : committedTables t n kind
    = { t.afterCommit n with
        outgoing := some (.commit (t.bank n).generation (t.bank n).epochDay t.activeGeneration kind) } := by
  simp only [committedTables, TableStore.committed, TableStore.endLoad, TableStore.afterCommit, setBank_eq]
  rfl

theorem afterCommit_bank (hn : n ≤ 1) : (t.afterCommit n).bank n
    = { t.bank n with role := .active, mark := .programmed (t.bank n).generation true } := by
  rcases Nat.le_one_iff_eq_zero_or_eq_one.mp hn with rfl | rfl <;> rfl

theorem afterCommit_active (hn : n ≤ 1) : (t.afterCommit n).active = some ((t.afterCommit n).bank n) := by
  rcases Nat.le_one_iff_eq_zero_or_eq_one.mp hn with rfl | rfl
  · rfl
  · have hother : (t.afterCommit 1).bank0.role ≠ .active := otherRole_ne_active (t.bank 0)
    have hindex : (t.afterCommit 1).activeIndex = some 1 := by
      rw [TableStore.activeIndex, if_neg hother]
      rfl
    rw [TableStore.active, hindex]
    rfl

end

/-! ## The COMMIT entry (R73) -/

/-- The COMMIT entry in the Table Store's outgoing place. -/
def State.withCommit (s : State) (body : EntryBody) : State :=
  s.setTables { s.tables with outgoing := some body }

section
variable {s : State} {generation epochDay previous : Nat} {kind : CommitKind}

/-- R73: once the entry is told, an immediate commit is answered. -/
theorem tablesTold_withCommit (hout : s.tables.outgoing = none) :
    tablesTold (s.withCommit (.commit generation epochDay previous kind))
      = if kind = .immediate then s.filled 51 (Reply.with .ok (be4 generation)) else s := by
  have ht : { s.tables with outgoing := none } = s.tables := by rw [← hout]
  have hs : (s.withCommit (.commit generation epochDay previous kind)).setTables { s.tables with outgoing := none } = s := by
    rw [ht]
    rfl
  cases kind with
  | immediate => exact congrArg (produce clsLoadCommit (Reply.with .ok (be4 generation))) hs
  | scheduled => exact hs

theorem draftOf_withCommit (body : EntryBody) : draftOf (s.withCommit body) .tables = some { body := body, run := none } :=
  rfl

end

section
variable {w : State} {body : EntryBody} {generation epochDay previous : Nat} {kind : CommitKind}

/-- R73, R132: the COMMIT entry in each of the four places. -/
theorem offer_tables_placeFree (hout : w.tables.outgoing = none) (h : w.placeFree)
    (hb : body = .commit generation epochDay previous kind) :
    offer .tables (w.withCommit body)
      = if kind = .immediate then (w.entered w.position.run body).filled 51 (Reply.with .ok (be4 generation))
        else w.entered w.position.run body := by
  subst hb
  rw [offer_of_placeFree (draftOf_withCommit _) (by exact h)]
  exact tablesTold_withCommit (s := w.entered w.position.run _) hout

theorem offer_tables_dropsEntries (hout : w.tables.outgoing = none) (h : w.dropsEntries)
    (hb : body = .commit generation epochDay previous kind) :
    offer .tables (w.withCommit body)
      = if kind = .immediate then w.filled 51 (Reply.with .ok (be4 generation)) else w := by
  subst hb
  rw [offer_of_dropsEntries .tables (s := w.withCommit _) (by exact h)]
  exact tablesTold_withCommit hout

theorem offer_tables_noPlace (h : w.noPlace) (hp : Producer.tables ∉ w.journal.waiting) :
    offer .tables (w.withCommit body)
      = { w with
          tables := { w.tables with outgoing := some body }
          journal := { w.journal with waiting := w.journal.waiting ++ [.tables] } } := by
  rw [offer_of_noPlace (s := w.withCommit body) h hp]
  rfl

theorem offer_tables_lastPlace (hout : w.tables.outgoing = none) (h : w.lastPlace)
    (hb : body = .commit generation epochDay previous kind) :
    offer .tables (w.withCommit body)
      = (if kind = .immediate then (w.entered w.position.run body).filled 51 (Reply.with .ok (be4 generation))
          else w.entered w.position.run body).exhausted := by
  have htold := tablesTold_withCommit (s := w.entered w.position.run body) (generation := generation)
    (epochDay := epochDay) (previous := previous) (kind := kind) hout
  have hwait : (if kind = .immediate then (w.entered w.position.run body).filled 51 (Reply.with .ok (be4 generation))
      else w.entered w.position.run body).journal.waiting = [] := by
    cases kind <;> exact h.2.2.2.1
  subst hb
  rw [offer_of_lastPlace (draftOf_withCommit _) (by exact h), ← exhaust_of_nobody_waiting hwait, ← htold]
  rfl

end

/-! ## The completion -/

section
variable {s x : State} {n : Nat} {kind : CommitKind}

theorem finishCommit_of_op (hop : s.tables.op = some (.markProgram n kind)) :
    finishCommit s = checkPosition (commitNotice n s.tables.activeGeneration kind
      (offer .tables ((s.setTables (s.tables.afterCommit n)).withCommit
        (.commit (s.tables.bank n).generation (s.tables.bank n).epochDay s.tables.activeGeneration kind)))) := by
  simp only [finishCommit, hop, markInFlight, committedTables_eq]
  rfl

/-- A commit leaves the header of its bank. -/
theorem afterCommit_generation {t : TableStore} (hn : n ≤ 1) :
    ((t.afterCommit n).bank n).generation = (t.bank n).generation
      ∧ ((t.afterCommit n).bank n).epochDay = (t.bank n).epochDay := by
  rw [afterCommit_bank hn]
  exact ⟨rfl, rfl⟩

/-- R73: the COMMIT_DONE notice of a state with the banks of the commit. -/
theorem commitNotice_eq (hn : n ≤ 1) (hbank : ∀ k, x.tables.bank k = (s.tables.afterCommit n).bank k) (previous : Nat) :
    commitNotice n previous kind x
      = x.noticed (.commitDone (s.tables.bank n).generation (s.tables.bank n).epochDay previous kind n
        ((s.tables.afterCommit n).bank (1 - n)).role) := by
  obtain ⟨hgen, hday⟩ := afterCommit_generation (t := s.tables) hn
  rw [commitNotice, hbank, hbank, hgen, hday]
  rfl

end

/-- Settles O34: whatever place the COMMIT entry finds, the notice and the position check follow it. -/
theorem commitTakesEffect : Obligations.CommitTakesEffect := by
  rintro n kind _ _ body s m after hpow hn hop hout rfl rfl hbody hm hafter
  have hexec : exec .commitMarkDone s = .next (settle (finishCommit s)) :=
    act_occurs finishCommit hpow (by rw [hop]; rfl)
  have hm' : m = s.setTables (s.tables.afterCommit n) := hm
  have hout' : m.tables.outgoing = none := by
    rw [hm', State.setTables_tables, TableStore.afterCommit]
    simp only [setBank_eq]
    exact hout
  have hend : ∀ x : State, x.tables.active = m.tables.active → (∀ k, x.tables.bank k = m.tables.bank k) →
      x.position = s.position → checkPosition (commitNotice n s.tables.activeGeneration kind x) = after x := by
    intro x hactive hbank hpos
    subst hm'
    rw [commitNotice_eq hn hbank, hafter]
    refine (checkPosition_eq (y := x.noticed _) (hactive.trans (afterCommit_active hn))).trans ?_
    rw [(afterCommit_generation hn).1, ← hpos]
    rfl
  rw [hexec, finishCommit_of_op hop, ← hm', ← hbody]
  refine ⟨fun h => ?_, fun h => ?_, fun h hp => ?_, fun h => ?_⟩
  · rw [offer_tables_placeFree hout' (by rw [hm']; exact h) hbody, hend _ ?_ ?_ ?_, hm']
    · rfl
    · split <;> rfl
    · split <;> exact fun _ => rfl
    · rw [hm']
      split <;> rfl
  · rw [offer_tables_dropsEntries hout' (by rw [hm']; exact h) hbody, hend _ ?_ ?_ ?_]
    · split <;> rfl
    · split <;> exact fun _ => rfl
    · rw [hm']
      split <;> rfl
  · rw [offer_tables_noPlace (by rw [hm']; exact h) (by rw [hm']; exact hp), hend _ ?_ ?_ ?_, hm']
    · rfl
    · rfl
    · exact fun _ => rfl
    · rw [hm']
      rfl
  · rw [offer_tables_lastPlace hout' (by rw [hm']; exact h) hbody, hend _ ?_ ?_ ?_, hm']
    · rfl
    · split <;> rfl
    · split <;> exact fun _ => rfl
    · rw [hm']
      split <;> rfl

end Sys2Proof.Machine
end

section
/-! SUPPORT. Resolutions (R121 to R124), and the entries offered from the control place: MARK, NOTE and CLOSED (R142, R143,
R147). -/

namespace Sys2Proof.Machine

/-! ## The resolution queue (R124) -/

/-- Resolutions in the memory's queue. -/
def State.withResolutions (s : State) (l : List Resolution) : State :=
  s.setMemory { s.memory with resolutions := l }

section
variable {m : State} {r : Resolution}

theorem draftOf_withResolutions (rest : List Resolution) : draftOf (m.withResolutions (r :: rest)) .memory
    = some { body := .consume r.tag r.key r.outcome, run := some r.run } := rfl

theorem withResolutions_self (h : m.memory.resolutions = []) : m.withResolutions [] = m := by
  have hmem : { m.memory with resolutions := [] } = m.memory := by rw [← h]
  rw [State.withResolutions, hmem]
  rfl

/-- R124: the one resolution waiting was queued. -/
theorem memoryQueued_single (seq : Nat) (h : m.memory.resolutions = []) :
    memoryQueued seq (m.withResolutions [r])
      = m.noticed (.consumeResolved r.tag r.key r.outcome (tripOf m.memory.slots r.key) (some seq)) := by
  show resolvedNotice r (some seq) (m.withResolutions []) = _
  rw [withResolutions_self h]
  rfl

theorem memoryDropped_single (h : m.memory.resolutions = []) :
    memoryDropped (m.withResolutions [r])
      = m.noticed (.consumeResolved r.tag r.key r.outcome (tripOf m.memory.slots r.key) none) := by
  show resolvedNotice r none (m.withResolutions []) = _
  rw [withResolutions_self h]
  rfl

end

section
variable {m : State} {tag : Nat} {key : Key} {o : ConsumeOutcome}

theorem resolve_of_four (h : 4 ≤ m.memory.resolutions.length) : resolve tag key o m
    = m.noticed (.consumeResolved tag key o (tripOf m.memory.slots key) none) := if_pos h

theorem resolve_first (h : m.memory.resolutions = []) : resolve tag key o m
    = offer .memory (m.withResolutions [{ tag := tag, key := key, outcome := o, run := m.position.run }]) := by
  simp [resolve, h, resolutionLimit, State.withResolutions]

theorem resolve_behind (h : m.memory.resolutions ≠ []) (hroom : m.memory.resolutions.length < 4) : resolve tag key o m
    = m.withResolutions
        (m.memory.resolutions ++ [{ tag := tag, key := key, outcome := o, run := m.position.run }]) := by
  simp [resolve, h, resolutionLimit, State.withResolutions, Nat.not_le.mpr hroom]

/-- R124: every way a resolution's entry is handled. -/
theorem resolve_resolvesTo (tag : Nat) (key : Key) (o : ConsumeOutcome) (m : State) :
    resolvesTo (.next (settle (resolve tag key o m))) m m tag key o := by
  refine ⟨fun h hr => ?_, fun h hr => ?_, fun h hr hp => ?_, fun hfull hmode hr => ?_, fun _ hr hroom => ?_, fun hfour => ?_,
    fun h hr => ?_⟩
  · rw [resolve_first hr, offer_of_placeFree (draftOf_withResolutions []) (by exact h)]
    exact congrArg (fun u => Host.Outcome.next (settle u))
      (memoryQueued_single (m := m.entered m.position.run (.consume tag key o)) m.journal.nextSeq hr)
  · rw [resolve_first hr, offer_of_dropsEntries .memory (s := m.withResolutions _) (by exact h)]
    exact congrArg (fun u => Host.Outcome.next (settle u)) (memoryDropped_single hr)
  · rw [resolve_first hr, offer_of_noPlace (s := m.withResolutions _) (by exact h) (by exact hp)]
    rfl
  · rw [resolve_first hr, offer_of_recovering .memory (s := m.withResolutions _) (by exact hfull) (by exact hmode)]
    rfl
  · rw [resolve_behind hr hroom]
    rfl
  · rw [resolve_of_four hfour]
  · rw [resolve_first hr, offer_of_lastPlace (draftOf_withResolutions []) (by exact h)]
    have htold := memoryQueued_single (m := m.entered m.position.run (.consume tag key o))
      (r := { tag := tag, key := key, outcome := o, run := m.position.run }) m.journal.nextSeq hr
    refine congrArg (fun u => Host.Outcome.next (settle u))
      ((congrArg exhaust htold).trans (exhaust_of_nobody_waiting ?_))
    exact h.2.2.2.1

/-- The outcomes are told apart by the Journal, the hold causes, the run and the resolution queue alone. -/
theorem resolvesTo_of_same {x : Host.Outcome State Fault Refusal} {s : State} (hj : m.journal = s.journal)
    (hi : m.intake = s.intake) (hp : m.position = s.position) (hr : m.memory.resolutions = s.memory.resolutions)
    (h : resolvesTo x m m tag key o) : resolvesTo x s m tag key o := by
  simpa only [resolvesTo, State.placeFree, State.takesEntries, State.dropsEntries, State.noPlace, State.lastPlace, hj, hi,
    hp, hr] using h

end

/-! ## Consume reports and windows -/

/-- R122: a report says WRITTEN or NOT_WRITTEN. -/
theorem readConsumeReport_outcome {payload : List Byte} {tag : Nat} {key : Key} {o : ConsumeOutcome}
    (h : readConsumeReport payload = some (tag, key, o)) : o = .written ∨ o = .notWritten := by
  unfold readConsumeReport at h
  split at h
  · simp at h
  split at h
  · simp only [Option.some.injEq, Prod.mk.injEq] at h
    exact .inl h.2.2.symm
  · simp only [Option.some.injEq, Prod.mk.injEq] at h
    exact .inr h.2.2.symm
  · simp at h

section
variable {tag : Nat} {key : Key} {o : ConsumeOutcome} {s : State}

theorem applyReport_matched (h : ∃ p ∈ s.memory.pendingList, p.tag = tag ∧ p.key = key)
    (ho : o = .written ∨ o = .notWritten) : applyReport tag key o s
      = resolve tag key o (s.setMemory
          { s.memory with
            slots := setTrip s.memory.slots key (if o = .written then .taken else .none)
            pendingList := s.memory.pendingList.eraseP fun p => p.tag == tag && p.key == key }) := by
  have hany : s.memory.pendingList.any (matchesReport tag key) = true := by
    obtain ⟨p, hp, htag, hkey⟩ := h
    exact List.any_eq_true.mpr ⟨p, hp, by simp [matchesReport, htag, hkey]⟩
  rw [applyReport, if_pos hany]
  rcases ho with rfl | rfl <;> rfl

theorem not_matched (h : ∀ p ∈ s.memory.pendingList, p.tag = tag → p.key ≠ key) :
    ¬s.memory.pendingList.any (matchesReport tag key) = true := by
  simp only [List.any_eq_true, not_exists, not_and, matchesReport, Bool.and_eq_true, beq_iff_eq]
  exact fun p hp htag => h p hp htag

theorem applyReport_late (h : ∀ p ∈ s.memory.pendingList, p.tag = tag → p.key ≠ key) :
    applyReport tag key .written s
      = resolve tag key .takenLate (s.setMemory
          { s.memory with
            slots := if tripOf s.memory.slots key = some .pending then s.memory.slots
              else setTrip s.memory.slots key .taken }) := by
  rw [applyReport, if_neg (not_matched h)]
  rfl

theorem applyReport_unmatched (h : ∀ p ∈ s.memory.pendingList, p.tag = tag → p.key ≠ key) :
    applyReport tag key .notWritten s = s := by
  rw [applyReport, if_neg (not_matched h)]
  rfl

theorem takeReport_malformed {payload : List Byte} (h : readConsumeReport payload = none) : takeReport payload s = s := by
  simp [takeReport, h]

theorem takeReport_wellFormed {payload : List Byte} (h : readConsumeReport payload = some (tag, key, o)) :
    takeReport payload s = applyReport tag key o s := by
  simp [takeReport, h]

theorem expireWindow_cons {p : PendingConsume} {rest : List PendingConsume} (h : s.memory.pendingList = p :: rest) :
    expireWindow s = resolve p.tag p.key .timedOut
      { s with
        timeBase := max s.timeBase p.expiry
        memory := { s.memory with slots := setTrip s.memory.slots p.key .none, pendingList := rest } } := by
  simp only [expireWindow, h]
  rfl

end

/-- Settles O45: a report that matches, comes late or means nothing, and a window that expires. -/
theorem tripsResolve : Obligations.TripsResolve := by
  refine ⟨fun bytes payload rest s hpow hw => ?_, fun p rest s hpow hl => ?_⟩
  · have hexec : exec (.consumeReport bytes) s = .next (settle (takeReport payload (setRx .reader rest s))) :=
      onReaderFrame_of_wholeFrame takeReport hpow hw
    refine ⟨fun hread => ?_, fun tag key o hread => ⟨fun hmatch => ?_, fun hnone => ⟨?_, ?_⟩⟩⟩
    · rw [hexec, takeReport_malformed hread]
      rfl
    · rw [hexec, takeReport_wellFormed hread, applyReport_matched (by exact hmatch) (readConsumeReport_outcome hread)]
      exact resolvesTo_of_same rfl rfl rfl rfl (resolve_resolvesTo tag key o _)
    · rintro rfl
      rw [hexec, takeReport_wellFormed hread, applyReport_unmatched (by exact hnone)]
      rfl
    · rintro rfl
      rw [hexec, takeReport_wellFormed hread, applyReport_late (by exact hnone)]
      exact resolvesTo_of_same rfl rfl rfl rfl (resolve_resolvesTo tag key .takenLate _)
  · have hexec : exec .consumeWindowExpiry s = .next (settle (expireWindow s)) :=
      act_occurs expireWindow hpow (by simp [hl])
    rw [hexec, expireWindow_cons hl]
    exact resolvesTo_of_same rfl rfl rfl rfl (resolve_resolvesTo p.tag p.key .timedOut _)

/-! ## The control place (R142, R143) -/

/-- An entry in the control place. -/
def State.withControl (s : State) (c : ControlItem) : State := s.setJournal { s.journal with control := some c }

/-- The control place is empty again. -/
def State.controlEmptied (s : State) : State := s.setJournal { s.journal with control := none }

theorem draftOf_withControl (s : State) (c : ControlItem) :
    draftOf (s.withControl c) .control = some { body := c.body, run := none } := rfl

section
variable {w : State} {c : ControlItem}

theorem offer_control_placeFree (h : w.placeFree) : offer .control (w.withControl c)
    = controlTold c (some w.journal.nextSeq) ((w.entered w.position.run c.body).withControl c) :=
  offer_of_placeFree (draftOf_withControl w c) h

theorem offer_control_dropsEntries (h : w.dropsEntries) :
    offer .control (w.withControl c) = controlTold c none (w.withControl c) :=
  offer_of_dropsEntries .control (s := w.withControl c) h

theorem offer_control_noPlace (h : w.noPlace) (hp : Producer.control ∉ w.journal.waiting) :
    offer .control (w.withControl c)
      = w.setJournal { w.journal with control := some c, waiting := w.journal.waiting ++ [.control] } :=
  offer_of_noPlace (s := w.withControl c) h hp

theorem offer_control_lastPlace (h : w.lastPlace) : offer .control (w.withControl c)
    = exhaust (controlTold c (some w.journal.nextSeq) ((w.entered w.position.run c.body).withControl c)) := by
  rw [offer_of_lastPlace (draftOf_withControl w c) (by exact h)]
  rfl

/-- R142: the MARK entry told, its response produced by whether the mark was clamped. -/
theorem controlTold_mark {value a b : Nat} (seq : Option Nat) (u : State) :
    controlTold (.mark value (decide (a < b))) seq u
      = produce 65 (entryReply (if a < b then .okClamped else .ok) (be4 value) seq) u.controlEmptied := by
  simp only [controlTold, decide_eq_true_eq]
  rfl

/-- R142, R143: a MARK or NOTE entry offered from the control place, its response of class `cls` held. -/
theorem offer_controlEntry {s : State} {cls : Nat} {st : Status} {before : List Byte} {mark : Nat}
    (htold : ∀ seq (u : State), controlTold c seq u = produce cls (entryReply st before seq) u.controlEmptied) :
    controlEntry
      (.next (settle (offer .control (State.withControl { s.awaited cls with journal := { s.journal with mark := mark } } c))))
      s { s.awaited cls with journal := { s.journal with mark := mark } } cls c st before := by
  refine ⟨fun h => ?_, fun h => ?_, fun h hp => ?_, fun h => ?_⟩
  · rw [offer_control_placeFree (by exact h), htold]
    rfl
  · rw [offer_control_dropsEntries (by exact h), htold]
    rfl
  · rw [offer_control_noPlace (by exact h) (by exact hp)]
    rfl
  · rw [offer_control_lastPlace (by exact h), htold, exhaust_of_nobody_waiting (by exact h.2.2.2.1)]
    rfl

end

/-- R142, R143, R147: a frame of the Journal is dispatched while the control place is empty. -/
theorem dispatch_journal_of_holdsFrame {cls : Nat} {payload : List Byte} {s : State} (f : List Byte → State → State)
    (h : s.holdsFrame cls payload) (hctl : s.journal.control = none) :
    dispatch cls (journalReady s) f s = .next (settle (f payload (takeFrame s))) :=
  dispatchWhen_of_holdsFrame f h (by simp [journalReady, hctl]) rfl

section
variable {payload : List Byte} {value : Nat} {s : State}

theorem takeExportMark_some (h : readExportMark payload = some value) : takeExportMark payload s = applyMark value s := by
  simp [takeExportMark, h]

/-- R142: the mark stands at or above what is asked for and complete. -/
theorem applyMark_unchanged (h : min value s.journal.highest ≤ s.journal.mark) :
    applyMark value s = markUnchanged (if s.journal.highest < value then .okClamped else .ok) s := by
  unfold applyMark
  by_cases hclamp : s.journal.highest < value
  · rw [if_pos hclamp, if_pos hclamp, if_neg (by omega)]
  · rw [if_neg hclamp, if_neg hclamp, if_pos (by omega)]

/-- R142: the mark raised, clamped to the highest complete number. -/
theorem applyMark_raised (h : s.journal.mark < min value s.journal.highest) :
    applyMark value s = raiseMark (min value s.journal.highest) (decide (s.journal.highest < value)) s := by
  unfold applyMark
  by_cases hclamp : s.journal.highest < value
  · rw [if_pos hclamp, if_pos (by omega), decide_eq_true hclamp, Nat.min_eq_right (Nat.le_of_lt hclamp)]
  · rw [if_neg hclamp, if_neg (by omega), decide_eq_false hclamp, Nat.min_eq_left (Nat.le_of_not_lt hclamp)]

/-- R142: the raised mark, its response held and its entry in the control place. -/
theorem raiseMark_takeFrame (value : Nat) (clamped : Bool) (s : State) : raiseMark value clamped (takeFrame s)
    = offer .control (State.withControl { s.awaited 65 with journal := { s.journal with mark := value } }
        (.mark value clamped)) := rfl

theorem takeNote_sixteen (h : payload.length = 16) :
    takeNote payload (takeFrame s) = offer .control ((s.awaited 66).withControl (.note payload)) := by
  have hread : readNote payload = some payload := by simp [readNote, h]
  rw [takeNote, hread]
  rfl

end

/-- Settles O51: the table of R142, and the NOTE entry offered in the same way. -/
theorem marksAndNotesJournaled : Obligations.MarksAndNotesJournaled := by
  refine ⟨?_, fun payload s hframe hctl hlen => ?_⟩
  · rintro payload value _ s hframe hctl hread rfl
    have hexec : exec .exportMark s = .next (settle (takeExportMark payload (takeFrame s))) :=
      dispatch_journal_of_holdsFrame takeExportMark hframe hctl
    rw [hexec, takeExportMark_some hread]
    refine ⟨fun h => ?_, fun h => ?_⟩
    · rw [applyMark_unchanged (by exact h)]
      rfl
    · rw [applyMark_raised (by exact h), raiseMark_takeFrame]
      exact offer_controlEntry fun seq u => controlTold_mark seq u
  · have hexec : exec .note s = .next (settle (takeNote payload (takeFrame s))) :=
      dispatch_journal_of_holdsFrame takeNote hframe hctl
    rw [hexec, takeNote_sixteen hlen]
    exact offer_controlEntry (s := s) (c := .note payload) (cls := 66) (mark := s.journal.mark) fun _ _ => rfl

/-! ## Shutdown (R147) -/

/-- R147: the state in which a CLOSED entry is due. -/
theorem closedDue_of {s : State} (hmode : s.journal.mode = .shutting) (hres : s.intake.causes.restarting = false)
    (hidle : s.evaluator = .idle) (hq : s.journal.queue = []) (hwait : s.journal.waiting = [])
    (hctl : s.journal.control = none) : closedDue s = true := by
  simp [closedDue, State.restarting, Evaluator.isIdle, hmode, hres, hidle, hq, hwait, hctl]

/-- R147: the CLOSED entry queued from an empty write queue, and the Journal SHUT. -/
theorem controlTold_closed_queued {s : State} (hq : s.journal.queue = []) (hctl : s.journal.control = none) :
    controlTold .closed (some s.journal.nextSeq)
        ((s.entered s.position.run ControlItem.closed.body).withControl .closed)
      = { s with
          journal :=
            { s.journal with
              mode := .shut, nextSeq := s.journal.nextSeq + 1
              queue := [{ seq := s.journal.nextSeq, time := s.position.clock, run := s.position.run
                          body := .closed }] } } := by
  have hqueue : s.journal.queue ++ [{ seq := s.journal.nextSeq, time := s.position.clock, run := s.position.run
                                      body := .closed }]
      = [{ seq := s.journal.nextSeq, time := s.position.clock, run := s.position.run, body := .closed }] := by
    rw [hq]
    rfl
  rw [← hqueue]
  show s.setJournal { (s.entered s.position.run .closed).journal with control := none, mode := .shut } = _
  rw [← hctl]
  rfl

/-- R147: the CLOSED entry dropped, its response marked. -/
theorem controlTold_closed_dropped {s : State} (hctl : s.journal.control = none) :
    controlTold .closed none (s.withControl .closed)
      = { s with journal := { s.journal with mode := .shut } }.filled 67
          { status := .ok, mark := .unjournaled, content := [] } := by
  show (s.setJournal { s.journal with control := none, mode := .shut }).filled 67 _ = _
  rw [← hctl]
  rfl

/-- Settles O52: SHUTDOWN by the Journal's mode, and the CLOSED entry queued, queued last, or dropped. -/
theorem shutdownCloses : Obligations.ShutdownCloses := by
  refine ⟨fun s hframe hctl => ?_, fun s hpow hmode hres hidle hq hwait hctl => ?_⟩
  · have hexec : exec .shutdown s = .next (settle (takeShutdown [] (takeFrame s))) :=
      dispatch_journal_of_holdsFrame takeShutdown hframe hctl
    rw [hexec]
    refine ⟨fun h => ?_, fun h => ?_⟩
    · have htake : takeShutdown [] (takeFrame s) = beginShutdown (takeFrame s) := if_pos h
      rw [htake]
      rfl
    · have htake : takeShutdown [] (takeFrame s) = respond clsShutdown (Reply.bare .badState) (takeFrame s) := if_neg h
      rw [htake]
      rfl
  · have hexec : exec .closedEntry s = .next (settle (offer .control (s.withControl .closed))) :=
      act_occurs (fun s => offer .control (s.withControl .closed)) hpow (closedDue_of hmode hres hidle hq hwait hctl)
    have htakes : s.takesEntries := .inr (.inl hmode)
    have hroom : s.journal.queue.length < 8 := by simp [hq]
    rw [hexec]
    refine ⟨fun hfull hn => ?_, fun hfull hn => ?_, fun hfull => ?_⟩
    · rw [offer_control_placeFree ⟨hfull, htakes, hroom, hwait, hn⟩, controlTold_closed_queued hq hctl]
    · rw [offer_control_lastPlace ⟨hfull, htakes, hroom, hwait, hn⟩, controlTold_closed_queued hq hctl,
        exhaust_of_nobody_waiting (by exact hwait), hn]
    · rw [offer_control_dropsEntries (.inl hfull), controlTold_closed_dropped hctl]

end Sys2Proof.Machine
end

section
/-! SUPPORT. The Annunciator's completions (R167, R169), the terminal's arbiter (R154 to R159), the queries (R161) and the
restart (R17, R163, R164). -/

namespace Sys2Proof.Machine

/-! ## The Annunciator -/

theorem mostUrgent_of {w : Pattern} {after : List Pattern} (hafter : ∀ x ∈ after, x.urgency ≤ w.urgency) :
    ∀ {before : List Pattern}, (∀ x ∈ before, x.urgency < w.urgency) → mostUrgent (before ++ w :: after) = some w := by
  have hmem : ∀ {l : List Pattern} {q : Pattern}, mostUrgent l = some q → q ∈ l := by
    intro l
    induction l with
    | nil => simp [mostUrgent]
    | cons p rest ih =>
      intro q hq
      cases hr : mostUrgent rest with
      | none => simp [mostUrgent, hr] at hq; simp [hq]
      | some y =>
        by_cases hlt : p.urgency < y.urgency
        · simp [mostUrgent, hr, hlt] at hq
          exact List.mem_cons_of_mem _ (hq ▸ ih hr)
        · simp [mostUrgent, hr, hlt] at hq
          simp [hq]
  intro before
  induction before with
  | nil =>
    intro _
    cases hr : mostUrgent after with
    | none => simp [mostUrgent, hr]
    | some q => simp [mostUrgent, hr, hafter q (hmem hr)]
  | cons p rest ih =>
    intro hbefore
    have hrest := ih fun x hx => hbefore x (List.mem_cons_of_mem _ hx)
    simp [mostUrgent, hrest, hbefore p List.mem_cons_self]

theorem earliest_mem {l : List (Nat × Nat)} {y : Nat × Nat} (h : earliest l = some y) : y ∈ l := by
  induction l generalizing y with
  | nil => simp [earliest] at h
  | cons x rest ih =>
    cases hr : earliest rest with
    | none =>
      simp only [earliest, hr, Option.some.injEq] at h
      simp [h]
    | some z =>
      simp only [earliest, hr] at h
      split at h
      · cases h
        exact List.mem_cons_of_mem _ (ih hr)
      · cases h
        exact List.mem_cons_self

/-- The first least of some moments. -/
theorem earliest_of {x : Nat × Nat} {after : List (Nat × Nat)} (hafter : ∀ y ∈ after, x.2 ≤ y.2) :
    ∀ {before : List (Nat × Nat)}, (∀ y ∈ before, x.2 < y.2) → earliest (before ++ x :: after) = some x := by
  intro before
  induction before with
  | nil =>
    intro _
    cases hr : earliest after with
    | none => simp [earliest, hr]
    | some y => simp [earliest, hr, hafter y (earliest_mem hr)]
  | cons b rest ih =>
    intro hbefore
    have hrest := ih fun y hy => hbefore y (List.mem_cons_of_mem _ hy)
    simp [earliest, hrest, hbefore b List.mem_cons_self]

/-- When a voice's note ends, if it sounds. -/
def Voice.ending (n : Nat) (v : Voice) : List (Nat × Nat) := if v.current.isSome then [(n, v.endsAt)] else []

theorem endings_eq (p : Playing) : p.endings = p.voice1.ending 1 ++ p.voice2.ending 2 ++ p.voice3.ending 3 := rfl

theorem ending_of_sounding {v : Voice} (n : Nat) (h : v.current ≠ none) : v.ending n = [(n, v.endsAt)] := by
  simp [Voice.ending, Option.isSome_iff_ne_none, h]

theorem ending_eq_nil_iff {v : Voice} {n : Nat} : v.ending n = [] ↔ v.current = none := by
  cases h : v.current <;> simp [Voice.ending, h]

theorem endings_eq_nil_iff (p : Playing) :
    p.endings = [] ↔ p.voice1.current = none ∧ p.voice2.current = none ∧ p.voice3.current = none := by
  simp [endings_eq, ending_eq_nil_iff]

/-- What a voice that does not end before a moment adds to the endings. -/
theorem le_of_mem_ending {v : Voice} {n a : Nat} (h : v.current = none ∨ a ≤ v.endsAt) : ∀ y ∈ v.ending n, a ≤ y.2 := by
  intro y hy
  rcases h with h | h
  · rw [ending_eq_nil_iff.mpr h] at hy
    cases hy
  · unfold Voice.ending at hy
    split at hy
    · cases List.mem_singleton.mp hy
      exact h
    · cases hy

theorem lt_of_mem_ending {v : Voice} {n a : Nat} (h : v.current = none ∨ a < v.endsAt) : ∀ y ∈ v.ending n, a < y.2 :=
  le_of_mem_ending (v := v) (a := a + 1) h

theorem advance_eq_goesOn (v : Voice) : v.advance = v.goesOn := by
  cases h : v.rest <;> simp [Voice.advance, Voice.goesOn, startVoice, Note.ms, h]

section
variable {s : State} {p q : Playing} {v at_ : Nat}

/-- R167: while a voice sounds, or with no record left, the pattern goes on as it is. -/
theorem noteEnd_goes_on (hq : p.advanceVoice v = q)
    (h : q.voice1.current ≠ none ∨ q.voice2.current ≠ none ∨ q.voice3.current ≠ none ∨ q.records = []) :
    p.noteEnd v at_ = q := by
  simp only [Playing.noteEnd, hq]
  split
  next hends hrecords =>
    obtain ⟨h1, h2, h3⟩ := (endings_eq_nil_iff q).mp hends
    simp [h1, h2, h3, hrecords] at h
  next => rfl

/-- R167: with every voice silent, the next record starts. -/
theorem noteEnd_next_record {r : List Note} {later : List (List Note)} (hq : p.advanceVoice v = q)
    (h1 : q.voice1.current = none) (h2 : q.voice2.current = none) (h3 : q.voice3.current = none)
    (hr : q.records = r :: later) : p.noteEnd v at_ = q.startRecord at_ r later := by
  have hends : q.endings = [] := (endings_eq_nil_iff q).mpr ⟨h1, h2, h3⟩
  simp only [Playing.noteEnd, hq, hends, hr]

/-- R167: the command's effect when the note of voice `v` ends next. -/
theorem playsOn_of_nextEnding (hpow : s.powered = true) (hp : s.annunciator.playing = some p)
    (hnext : p.nextEnding = some (v, at_)) (hq : p.advanceVoice v = q) : playsOn s q at_ := by
  have hexec : exec .noteEnd s = .next (settle (endNote s)) :=
    act_occurs endNote hpow (by simp [hp, hnext])
  have hend : endNote s = (s.setTimeBase (max s.timeBase at_)).setAnnunciator
      { s.annunciator with playing := some (p.noteEnd v at_) } := by
    simp only [endNote, hp, hnext]
  rw [playsOn, hexec, hend]
  refine ⟨fun h => ?_, fun r later h1 h2 h3 hr => ?_⟩
  · rw [noteEnd_goes_on hq h]
    rfl
  · rw [noteEnd_next_record hq h1 h2 h3 hr]
    rfl

theorem complete_empty {a : Annunciator} (now : Nat) (h : a.queue = []) :
    a.complete now = { playing := none, queue := [] } := by
  simp [Annunciator.complete, h, mostUrgent]

theorem complete_next {a : Annunciator} {before after : List Pattern} {w : Pattern} (now : Nat)
    (h : a.queue = before ++ w :: after) (hbefore : ∀ x ∈ before, x.urgency < w.urgency)
    (hafter : ∀ x ∈ after, x.urgency ≤ w.urgency) :
    a.complete now = { playing := some (startPattern now w), queue := before ++ after } := by
  have herase : (before ++ w :: after).eraseP (fun x => decide (x.urgency = w.urgency)) = before ++ after := by
    rw [List.eraseP_append_right _ (fun x hx => by simpa using Nat.ne_of_lt (hbefore x hx)),
      List.eraseP_cons_of_pos (by simp)]
  simp only [Annunciator.complete, h, mostUrgent_of hafter hbefore, herase]

end

/-- Settles O60: the completion by the queue's most urgent entry, and the note's end by the voice that ends next. -/
theorem patternsPlayOn : Obligations.PatternsPlayOn := by
  intro p s hpow hp
  have hexec : exec .patternCompletion s = .next (settle
      ((s.setTimeBase (max s.timeBase p.finish)).setAnnunciator (s.annunciator.complete p.finish))) := by
    have hact : exec .patternCompletion s = .next (settle (completePattern s)) :=
      act_occurs completePattern hpow (by simp [hp])
    rw [hact]
    simp only [completePattern, hp]
  refine ⟨fun h => ?_, fun before w after h hbefore hafter => ?_, fun h1 h2 h3 => ?_, fun h2 h1 h3 => ?_,
    fun h3 h1 h2 => ?_⟩
  · rw [hexec, complete_empty _ h]
    rfl
  · rw [hexec, complete_next _ h hbefore hafter]
    rfl
  · refine playsOn_of_nextEnding (v := 1) hpow hp ?_ (by rw [← advance_eq_goesOn]; rfl)
    have hafter : ∀ y ∈ p.voice2.ending 2 ++ p.voice3.ending 3, p.voice1.endsAt ≤ y.2 := fun y hy =>
      (List.mem_append.mp hy).elim (le_of_mem_ending h2 y) (le_of_mem_ending h3 y)
    rw [Playing.nextEnding, endings_eq, ending_of_sounding 1 h1, List.append_assoc]
    exact earliest_of (before := []) hafter (by simp)
  · refine playsOn_of_nextEnding (v := 2) hpow hp ?_ (by rw [← advance_eq_goesOn]; rfl)
    rw [Playing.nextEnding, endings_eq, ending_of_sounding 2 h2, List.append_assoc]
    exact earliest_of (le_of_mem_ending h3) (lt_of_mem_ending h1)
  · refine playsOn_of_nextEnding (v := 3) hpow hp ?_ (by rw [← advance_eq_goesOn]; rfl)
    have hbefore : ∀ y ∈ p.voice1.ending 1 ++ p.voice2.ending 2, p.voice3.endsAt < y.2 := fun y hy =>
      (List.mem_append.mp hy).elim (lt_of_mem_ending h1 y) (lt_of_mem_ending h2 y)
    rw [Playing.nextEnding, endings_eq, ending_of_sounding 3 h3]
    exact earliest_of (by simp) hbefore

/-! ## The arbiter (R158) -/

section
variable {slots : List (Nat × JSlot)} {p : TerminalPort} {s : State}

theorem sendEntry_cons {n q : Nat} {rest : List Nat} {e : Entry} (hs : p.stream = q :: rest)
    (he : entryOf slots q = some e) :
    sendEntry slots n p = { p with stream := rest, burst := some (n + 1), sending := some (.journalEntry e) } := by
  simp only [sendEntry, hs, he]

theorem sendEntry_nil {n : Nat} (hs : p.stream = []) : sendEntry slots n p = { p with burst := none } := by
  simp only [sendEntry, hs]

theorem arbiterChoice_response {c : Nat} {r : Reply} {rest : List Response}
    (h : p.responses = { cls := c, reply := some r } :: rest) :
    arbiterChoice slots p = { p with burst := none, sending := some (.response c r) } := by
  simp only [arbiterChoice, h]

/-- R158: with no produced response at the head, the verdicts, the notices and the stream follow. -/
theorem arbiterChoice_no_response (h : ∀ x rest, p.responses = x :: rest → x.reply = none) :
    arbiterChoice slots p = match p.verdicts, p.notices with
      | v :: _, _ => { p with burst := none, sending := some (.verdict v) }
      | [], n :: rest => { p with burst := none, notices := rest, dropped := 0, sending := some (.notice n p.dropped) }
      | [], [] => sendEntry slots 0 p := by
  cases hr : p.responses with
  | nil =>
    simp only [arbiterChoice, hr]
    rcases p.verdicts with _ | ⟨v, more⟩
    · rcases p.notices with _ | ⟨n, rest⟩ <;> rfl
    · rfl
  | cons x rest =>
    obtain ⟨cls, reply⟩ := x
    have hnone : reply = none := h _ _ hr
    subst hnone
    simp only [arbiterChoice, hr]
    rcases p.verdicts with _ | ⟨v, more⟩
    · rcases p.notices with _ | ⟨n, rest⟩ <;> rfl
    · rfl

section
variable (hresp : ∀ x rest, p.responses = x :: rest → x.reply = none)
include hresp

theorem arbiterChoice_verdict {v : Verdict} {rest : List Verdict} (hv : p.verdicts = v :: rest) :
    arbiterChoice slots p = { p with burst := none, sending := some (.verdict v) } := by
  simp only [arbiterChoice_no_response hresp, hv]

theorem arbiterChoice_notice {n : Notice} {rest : List Notice} (hv : p.verdicts = []) (hn : p.notices = n :: rest) :
    arbiterChoice slots p
      = { p with burst := none, notices := rest, dropped := 0, sending := some (.notice n p.dropped) } := by
  simp only [arbiterChoice_no_response hresp, hv, hn]

theorem arbiterChoice_stream (hv : p.verdicts = []) (hn : p.notices = []) :
    arbiterChoice slots p = sendEntry slots 0 p := by
  simp only [arbiterChoice_no_response hresp, hv, hn]

end

/-- R158, R159: a running burst goes on before the choice. -/
theorem terminalTransmit_burst {n : Nat} (hfree : s.port.sending = none) (hr : restartReady s = false)
    (hb : s.port.burst = some n) (hn : n < s.settings.burst) (hs : s.port.stream ≠ []) :
    terminalTransmit s = s.setPort (sendEntry s.journal.slots n s.port) := by
  rw [terminalTransmit, if_neg (by simp [hr]), hfree, hb]
  exact if_pos ⟨hn, hs⟩

theorem terminalTransmit_choice (hfree : s.port.sending = none) (hr : restartReady s = false)
    (h : s.port.burst = none ∨ s.port.stream = [] ∨ ∃ n, s.port.burst = some n ∧ s.settings.burst ≤ n) :
    terminalTransmit s = s.setPort (arbiterChoice s.journal.slots s.port) := by
  rw [terminalTransmit, if_neg (by simp [hr]), hfree]
  cases hb : s.port.burst with
  | none => rfl
  | some n =>
    refine if_neg ?_
    rintro ⟨hn, hs⟩
    rcases h with h | h | ⟨k, hk, hle⟩
    · simp [hb] at h
    · exact hs h
    · cases hb.symm.trans hk
      omega

end

/-- Settles O57: the sent frame's queue, the restart's precedence, the burst, and the order of choice. -/
theorem arbiterChooses : Obligations.ArbiterChooses := by
  refine ⟨fun p f s hpow hsending hp => ?_, fun s hr => if_pos hr,
    fun s hfree hr => ⟨fun n q rest e hb hn hs he => ?_, fun hburst => ⟨fun c r rest hresp => ?_, fun hresp =>
      ⟨fun v rest hv => ?_, fun hv => ⟨fun n rest hn => ?_, fun hn => ⟨fun q rest e hs he => ?_, fun hs => ?_⟩⟩⟩⟩⟩⟩
  · have hexec : exec .terminalTxDone s = .next (settle (s.setPort s.port.sent)) :=
      act_occurs (fun s => s.setPort s.port.sent) hpow (by rw [hsending]; rfl)
    have hsent : s.port.sent = p := by
      rw [hp]
      cases f <;> simp only [TerminalPort.sent, hsending]
    rw [hexec, hsent]
    rfl
  · rw [terminalTransmit_burst hfree hr hb hn (by simp [hs]), sendEntry_cons hs he]
    rfl
  · rw [terminalTransmit_choice hfree hr hburst, arbiterChoice_response hresp]
    rfl
  · rw [terminalTransmit_choice hfree hr hburst, arbiterChoice_verdict hresp hv]
    rfl
  · rw [terminalTransmit_choice hfree hr hburst, arbiterChoice_notice hresp hv hn]
    rfl
  · rw [terminalTransmit_choice hfree hr hburst, arbiterChoice_stream hresp hv hn, sendEntry_cons hs he]
    rfl
  · rw [terminalTransmit_choice hfree hr hburst, arbiterChoice_stream hresp hv hn, sendEntry_nil hs]
    rfl

/-! ## The queries (R161) -/

section
variable {content : State → List Byte} {payload : List Byte} {kind : Nat} {s : State}

/-- R161: a query of one byte, its reply gathered with its own entry held. -/
theorem plainQuery_takeFrame : plainQuery kind content (be1 kind) (takeFrame s)
    = (s.awaited 81).filled 81 (Reply.with .ok (content (s.awaited 81))) := if_pos rfl

theorem takeMemoryQuery_takeFrame {k : Key} (h : readMemoryQuery payload = some k) :
    takeMemoryQuery payload (takeFrame s) = (s.awaited 81).filled 81 (Reply.with .ok (memoryBytes (s.awaited 81) k)) := by
  simp only [takeMemoryQuery, h]
  rfl

end

/-- R161: what the replies read is not the response queue. -/
theorem directoryBytes_awaited (s : State) : directoryBytes (s.awaited 81) = directoryBytes s := rfl

theorem historyBytes_awaited (s : State) : historyBytes (s.awaited 81) = historyBytes s := rfl

theorem memoryBytes_awaited (s : State) (k : Key) : memoryBytes (s.awaited 81) k = memoryBytes s k := rfl

/-- Settles O55: each row's reply is gathered with the query's own entry held. -/
theorem queriesReadTheState : Obligations.QueriesReadTheState := by
  refine fun s => ⟨fun h => ?_, fun h => ?_, fun h => ?_, fun k0 k1 k2 k3 k4 h => ?_⟩
  · have hexec : exec .queryStatus s = .next (settle (plainQuery 1 statusBytes (be1 1) (takeFrame s))) :=
      dispatchWhen_of_holdsFrame (takes := fun p => queryRow p == 1) (plainQuery 1 statusBytes) h rfl rfl
    rw [hexec, plainQuery_takeFrame]
  · have hexec : exec .queryDirectory s = .next (settle (plainQuery 2 directoryBytes (be1 2) (takeFrame s))) :=
      dispatchWhen_of_holdsFrame (takes := fun p => queryRow p == 2) (plainQuery 2 directoryBytes) h rfl rfl
    rw [hexec, plainQuery_takeFrame, directoryBytes_awaited]
  · have hexec : exec .queryHistory s = .next (settle (plainQuery 3 historyBytes (be1 3) (takeFrame s))) :=
      dispatchWhen_of_holdsFrame (takes := fun p => queryRow p == 3) (plainQuery 3 historyBytes) h rfl rfl
    rw [hexec, plainQuery_takeFrame, historyBytes_awaited]
  · have hexec : exec .queryMemory s = .next (settle (takeMemoryQuery [4, k0, k1, k2, k3, k4] (takeFrame s))) :=
      dispatchWhen_of_holdsFrame (takes := fun p => queryRow p == 4) takeMemoryQuery h rfl rfl
    have hkey : readMemoryQuery [4, k0, k1, k2, k3, k4] = some (keyAt [k0, k1, k2, k3, k4] 0) := rfl
    rw [hexec, takeMemoryQuery_takeFrame hkey, memoryBytes_awaited]

/-! ## The restart (R17, R100, R163, R164) -/

section
variable {s : State}

theorem takeRestart_takeFrame :
    takeRestart [] (takeFrame s) = dropEvaluation (setRestarting (s.awaited 82)) := if_pos rfl

theorem dropEvaluation_idle (h : s.evaluator = .idle) : dropEvaluation s = s := if_pos (by rw [h]; rfl)

/-- R100: an evaluation in flight ends where it stands, its entry no longer waiting. -/
theorem dropEvaluation_busy {c : EvalContext} (h : s.evaluator.context = some c) :
    dropEvaluation s = if s.memory.clearDeferred then
        clearMemory (releasePin c.bank ((leaveWaiting s).setEvaluator .idle))
      else releasePin c.bank ((leaveWaiting s).setEvaluator .idle) := by
  have hbusy : ¬s.evaluator.isIdle = true := by
    intro hidle
    cases he : s.evaluator <;> simp [he, Evaluator.isIdle, Evaluator.context] at hidle h
  rw [dropEvaluation, if_neg hbusy, endEvaluation_eq]
  have hbank : (leaveWaiting s).evaluator.context.bind EvalContext.bank = c.bank := by
    show s.evaluator.context.bind EvalContext.bank = c.bank
    rw [h]
    rfl
  rw [hbank]
  rfl

/-- R163: what the end of the drain gives a response. -/
theorem endedResponse_eq : endedResponse = fun r =>
    if r.reply ≠ none then r
    else if r.cls = 82 then { r with reply := some (Reply.bare .ok) }
    else { r with reply := some { status := .badState, mark := .restarted, content := [] } } := by
  funext r
  cases hr : r.reply with
  | some x => simp [endedResponse, hr]
  | none =>
    simp only [endedResponse, hr]
    rfl

/-- R150, R163: the drain has ended. -/
theorem drained_of (hq : s.journal.queue = []) (hwait : s.journal.waiting = []) (hj : s.journal.op = none)
    (ht : s.tables.op = none) (hcheck : s.tables.checking = false) (hdue : s.tables.commitDue = none) :
    drained s = true := by
  simp [drained, hq, hwait, hj, ht, hcheck, hdue]

end

/-- Settles O56: the dispatch with and without an evaluation in flight, the end of the drain, and the effect. -/
theorem restartIsWarm : Obligations.RestartIsWarm := by
  refine fun s => ⟨fun hframe => ?dispatch, fun hpow hres hq hwait hj ht hcheck hdue => ?drain⟩
  case dispatch =>
    have hexec : exec .restart s = .next (settle (takeRestart [] (takeFrame s))) :=
      dispatch_of_holdsFrame takeRestart hframe
    rw [hexec, takeRestart_takeFrame]
    refine ⟨fun hidle => ?_, fun c m hc hm => ⟨fun hdef => ?_, fun hdef hnotices hdropped => ?_⟩⟩
    · rw [dropEvaluation_idle (by exact hidle)]
      rfl
    · rw [dropEvaluation_busy (by exact hc), if_neg (by simp [setRestarting, State.awaited, hdef]),
        releasePin_idle, hm]
      rfl
    · have hport : m.port.notices.length ≤ 16 ∧ m.port.dropped ≤ 255 := by
        rw [hm]
        exact ⟨hnotices, hdropped⟩
      rw [dropEvaluation_busy (by exact hc), if_pos (by exact hdef), releasePin_idle, clearMemory_eq, State.moreNotices,
        ← addNotices_eq _ m.port hport.1 hport.2, hm]
      rfl
  case drain =>
    have hdrained := drained_of hq hwait hj ht hcheck hdue
    refine ⟨fun hpending => ?_, fun hresp hverdicts hsending => ⟨s.tables.atStart, ?_, rfl, startRoles_atStart s.tables⟩⟩
    · have hmine : restartPending s.port = true := List.any_eq_true.mpr ⟨_, hpending, rfl⟩
      have hexec : exec .drainEnd s = .next (settle (s.setPort
          { s.port with responses := s.port.responses.map endedResponse })) :=
        act_occurs (fun s => s.setPort { s.port with responses := s.port.responses.map endedResponse }) hpow
          (by simp [State.restarting, hres, hmine, hdrained])
      rw [hexec, endedResponse_eq]
      rfl
    · have hexec : exec .warmRestartEffect s = .next (settle (warmRestart s)) :=
        act_occurs warmRestart hpow
          (by simp [restartReady, State.restarting, hres, hresp, hverdicts, hsending, hdrained])
      have hpowered : warmRestart s = { warmRestart s with powered := true } := by
        rw [← hpow]
        rfl
      rw [hexec, hpowered]
      rfl

end Sys2Proof.Machine
end

section
/-! SUPPORT. Payloads that are not well formed (R3, R22, R153, R173): each row answers BAD_ARG and changes nothing else. -/

namespace Sys2Proof.Machine

/-- BAD_ARG with some content, without mark. -/
def Reply.badArg (content : List Byte) : Reply := { status := .badArg, mark := .none, content := content }

/-- A row whose effect on a frame is to answer BAD_ARG. -/
theorem badArg_of_respond {x : Instr} {cls : Nat} {payload content : List Byte} {s : State}
    (f : List Byte → State → State) (hexec : exec x s = .next (settle (f payload (takeFrame s))))
    (hf : f payload (takeFrame s) = respond cls (Reply.badArg content) (takeFrame s)) :
    ∃ content, exec x s = .next (settle
      (s.answered cls { status := .badArg, mark := .none, content := content })) := by
  refine ⟨content, ?_⟩
  rw [hexec, hf]
  rfl

section
variable {payload : List Byte} {w : State}

theorem flushQueue_malformed (h : payload ≠ []) :
    flushQueue payload w = respond clsIntakeFlush (Reply.badArg (be1 0)) w := if_neg h

theorem takeCoach_malformed (h : payload.length ≠ 3) : takeCoach payload w = respond clsCoach (Reply.badArg []) w := by
  have hread : readCoach payload = none := if_pos (by simpa using h)
  rw [takeCoach, hread]
  rfl

theorem takeRunStart_malformed (h : payload.length ≠ 2 ∨ payload = [0, 0]) :
    takeRunStart payload w = respond clsRunStart (Reply.badArg []) w := by
  rcases h with h | rfl
  · have hread : readRunStart payload = none := if_pos (by simpa using h)
    rw [takeRunStart, hread]
    rfl
  · have hread : readRunStart [0, 0] = some 0 := by decide
    rw [takeRunStart, hread]
    exact if_pos rfl

theorem takeRecord_malformed (h : payload.length < 4) :
    takeRecord payload w = respond clsLoadRecord (Reply.badArg []) w := by
  have hread : readRecordFrame payload = none := if_pos h
  rw [takeRecord, hread]
  rfl

theorem takeClose_malformed (h : payload ≠ []) : takeClose payload w = respond clsLoadClose (Reply.badArg []) w :=
  if_neg h

theorem takeCommitNow_malformed (h : payload.length ≠ 5) :
    takeCommitNow payload w = respond clsLoadCommit (Reply.badArg []) w :=
  if_pos (by simp [readCommitNow, h])

theorem takeCommitTime_malformed (h : readCommitTime payload = none) :
    takeCommitTime payload w = respond clsLoadCommit (Reply.badArg []) w := by
  rw [takeCommitTime, h]
  rfl

theorem takeAbandon_malformed (h : payload ≠ []) :
    takeAbandon payload w = respond clsLoadAbandon (Reply.badArg []) w := if_neg h

theorem takeExportRead_malformed (h : readExportRead payload = none) :
    takeExportRead payload w = respond clsExportRead (Reply.badArg []) w := by
  rw [takeExportRead, h]
  rfl

theorem takeExportMark_malformed (h : payload.length ≠ 4) :
    takeExportMark payload w = respond clsExportMark (Reply.badArg (be4 w.journal.mark ++ be4 0)) w := by
  have hread : readExportMark payload = none := if_pos (by simpa using h)
  rw [takeExportMark, hread]
  rfl

theorem takeNote_malformed (h : payload.length ≠ 16) :
    takeNote payload w = respond clsNote (Reply.badArg (be4 0)) w := by
  have hread : readNote payload = none := if_pos (by simpa using h)
  rw [takeNote, hread]
  rfl

theorem takeShutdown_malformed (h : payload ≠ []) :
    takeShutdown payload w = respond clsShutdown (Reply.badArg []) w := if_pos h

theorem takeConfig_malformed (h : readConfig payload = none) :
    takeConfig payload w = respond clsConfig (Reply.badArg (settingsBytes w.settings)) w := by
  rw [takeConfig, h]
  rfl

theorem plainQuery_malformed {kind : Nat} {content : State → List Byte} (h : payload ≠ be1 kind) :
    plainQuery kind content payload w = respond clsQuery (Reply.badArg []) w := if_neg h

theorem takeMemoryQuery_malformed (h : payload.length ≠ 6) :
    takeMemoryQuery payload w = respond clsQuery (Reply.badArg []) w := by
  have hread : readMemoryQuery payload = none := if_pos (by simpa using h)
  rw [takeMemoryQuery, hread]
  rfl

theorem takeRestart_malformed (h : payload ≠ []) :
    takeRestart payload w = respond clsRestart (Reply.badArg []) w := if_neg h

end

/-! ## LOAD_OPEN with a code that is not listed (R60, R173) -/

/-- R60: the kinds that spec 11 gives a code. -/
theorem segKindOf_listed {n : Nat} {kind : SegKind} (h : segKindOf n = some kind) : 1 ≤ n ∧ n ≤ 6 := by
  match n, h with
  | 0, h => cases h
  | 1, _ | 2, _ | 3, _ | 4, _ | 5, _ | 6, _ => decide
  | n + 7, h => cases h

/-- R173: a segment declaration with a code that the spec does not list. -/
theorem segDeclOf_unlisted {x : RawSeg} (h : x.kind < 1 ∨ 6 < x.kind ∨ 1 < x.placement) : segDeclOf x = none := by
  unfold segDeclOf
  split
  · rfl
  next kind hk =>
    obtain ⟨hlow, hhigh⟩ := segKindOf_listed hk
    rw [if_neg (by omega), if_neg (by omega)]

theorem readSegs_unlisted {auths : List AuthDecl} {raws : List RawSeg}
    (h : ∃ x ∈ raws, x.kind < 1 ∨ 6 < x.kind ∨ 1 < x.placement) :
    ∀ earlier, ∃ i, readSegs auths earlier raws = .error i := by
  induction raws with
  | nil => simp at h
  | cons r rest ih =>
    intro earlier
    cases hd : segDeclOf r with
    | none => exact ⟨earlier.length, by simp only [readSegs, hd]⟩
    | some d =>
      have hrest : ∃ x ∈ rest, x.kind < 1 ∨ 6 < x.kind ∨ 1 < x.placement := by
        obtain ⟨x, hx, hbad⟩ := h
        rcases List.mem_cons.mp hx with rfl | hx
        · rw [segDeclOf_unlisted hbad] at hd
          cases hd
        · exact ⟨x, hx, hbad⟩
      by_cases hok : segDeclOk auths earlier d = true
      · obtain ⟨i, hi⟩ := ih hrest (earlier ++ [d])
        exact ⟨i, by simp only [readSegs, hd, hok, if_true, hi]⟩
      · exact ⟨_, by simp only [readSegs, hd, hok]; rfl⟩

theorem openManifest_unlisted (g : Nat) {raw : RawManifest}
    (h : ∃ x ∈ raw.segs, x.kind < 1 ∨ 6 < x.kind ∨ 1 < x.placement) :
    ∃ e, openManifest g raw = .error e ∧ e.status = .badArg := by
  have hcheck : ∃ e, checkDeclarations g raw = .error e ∧ e.status = .badArg := by
    unfold checkDeclarations
    split
    · exact ⟨_, rfl, rfl⟩
    split
    · exact ⟨_, rfl, rfl⟩
    obtain ⟨i, hi⟩ := readSegs_unlisted (auths := raw.auths) h []
    rw [hi]
    exact ⟨_, rfl, rfl⟩
  obtain ⟨e, he, hst⟩ := hcheck
  exact ⟨e, by rw [openManifest, he], hst⟩

theorem unlistedCode_isSome {raw : RawManifest}
    (h : ∃ x ∈ raw.segs, x.kind < 1 ∨ 6 < x.kind ∨ 1 < x.placement) : ∃ i, unlistedCode raw = some i := by
  obtain ⟨x, hx, hbad⟩ := h
  rw [← Option.isSome_iff_exists, unlistedCode, List.findIdx?_isSome, List.any_eq_true]
  exact ⟨x, hx, by rw [segDeclOf_unlisted hbad]; rfl⟩

theorem takeOpen_malformed {payload : List Byte} (w : State) (h : readManifest payload = none
      ∨ ∃ raw, readManifest payload = some raw ∧ ∃ x ∈ raw.segs, x.kind < 1 ∨ 6 < x.kind ∨ 1 < x.placement) :
    ∃ content, takeOpen payload w = respond clsLoadOpen (Reply.badArg content) w := by
  rcases h with h | ⟨raw, h, hbad⟩
  · refine ⟨[], ?_⟩
    rw [takeOpen, h]
    rfl
  rw [takeOpen_some w h]
  by_cases hidle : w.tables.engineNow = .idle
  · obtain ⟨e, he, hst⟩ := openManifest_unlisted w.tables.activeGeneration hbad
    refine ⟨be1 e.check ++ [e.position], ?_⟩
    rw [checkManifest_error hidle he, hst]
    rfl
  · obtain ⟨i, hi⟩ := unlistedCode_isSome hbad
    refine ⟨be1 1 ++ be1 i, ?_⟩
    rw [checkManifest_not_idle hidle, refuseOpen, hi]
    rfl

/-- Settles O58: row by row. -/
theorem malformedPayloadsAnswered : Obligations.MalformedPayloadsAnswered := by
  intro payload s
  simp only [List.forall_mem_cons, List.not_mem_nil, false_imp_iff, implies_true, and_true]
  refine ⟨fun h _ hb => badArg_of_respond flushQueue (dispatch_of_holdsFrame flushQueue h) (flushQueue_malformed hb),
    fun h ho hb => badArg_of_respond takeCoach (dispatch_position_of_holdsFrame takeCoach h (Option.isNone_iff_eq_none.mp ho)) (takeCoach_malformed hb),
    fun h ho hb => badArg_of_respond takeRunStart (dispatch_position_of_holdsFrame takeRunStart h (Option.isNone_iff_eq_none.mp ho))
      (takeRunStart_malformed hb),
    fun h ho hb => ?loadOpen,
    fun h ho hb => badArg_of_respond takeRecord (dispatch_tables_of_holdsFrame takeRecord h ho) (takeRecord_malformed hb),
    fun h ho hb => badArg_of_respond takeClose (dispatch_tables_of_holdsFrame takeClose h ho) (takeClose_malformed hb),
    fun h ho hb => badArg_of_respond takeCommitNow
      (dispatchWhen_of_holdsFrame (takes := commitModeNow) takeCommitNow h ho hb.1) (takeCommitNow_malformed hb.2),
    fun h ho hb => badArg_of_respond takeCommitTime
      (dispatchWhen_of_holdsFrame (takes := fun p => !commitModeNow p) takeCommitTime h ho (by simp [hb.1]))
      (takeCommitTime_malformed hb.2),
    fun h ho hb => badArg_of_respond takeAbandon (dispatch_tables_of_holdsFrame takeAbandon h ho)
      (takeAbandon_malformed hb),
    fun h ho hb => badArg_of_respond takeExportRead (dispatch_journal_of_holdsFrame takeExportRead h (Option.isNone_iff_eq_none.mp ho))
      (takeExportRead_malformed hb),
    fun h ho hb => badArg_of_respond takeExportMark (dispatch_journal_of_holdsFrame takeExportMark h (Option.isNone_iff_eq_none.mp ho))
      (takeExportMark_malformed hb),
    fun h ho hb => badArg_of_respond takeNote (dispatch_journal_of_holdsFrame takeNote h (Option.isNone_iff_eq_none.mp ho)) (takeNote_malformed hb),
    fun h ho hb => badArg_of_respond takeShutdown (dispatch_journal_of_holdsFrame takeShutdown h (Option.isNone_iff_eq_none.mp ho))
      (takeShutdown_malformed hb),
    fun h _ hb => badArg_of_respond takeConfig (dispatch_of_holdsFrame takeConfig h) (takeConfig_malformed hb),
    fun h _ hb => badArg_of_respond (plainQuery 1 statusBytes)
      (dispatchWhen_of_holdsFrame (takes := fun p => queryRow p == 1) _ h rfl (by simp [hb.1]))
      (plainQuery_malformed hb.2),
    fun h _ hb => badArg_of_respond (plainQuery 2 directoryBytes)
      (dispatchWhen_of_holdsFrame (takes := fun p => queryRow p == 2) _ h rfl (by simp [hb.1]))
      (plainQuery_malformed hb.2),
    fun h _ hb => badArg_of_respond (plainQuery 3 historyBytes)
      (dispatchWhen_of_holdsFrame (takes := fun p => queryRow p == 3) _ h rfl (by simp [hb.1]))
      (plainQuery_malformed hb.2),
    fun h _ hb => badArg_of_respond takeMemoryQuery
      (dispatchWhen_of_holdsFrame (takes := fun p => queryRow p == 4) _ h rfl (by simp [hb.1]))
      (takeMemoryQuery_malformed hb.2),
    fun h _ hb => badArg_of_respond takeRestart (dispatch_of_holdsFrame takeRestart h) (takeRestart_malformed hb)⟩
  case loadOpen =>
    obtain ⟨content, hcontent⟩ := takeOpen_malformed (takeFrame s) hb
    exact badArg_of_respond takeOpen (dispatch_tables_of_holdsFrame takeOpen h ho) hcontent

end Sys2Proof.Machine
end

section
/-! SUPPORT. What the producers are told when entries are dropped (R95, R124, R131, R137), block by block. -/

namespace Sys2Proof.Machine

/-! ## A dropped entry and its producer -/

section
variable (p : Producer) (s : State)

/-- The Evaluator told that the entry it waits to have queued was dropped (R95). -/
def Evaluator.placeDropped : Evaluator → Evaluator
  | .awaiting c v .place => toldDropped c v
  | e => e

/-- The Journal's part when the entry of the control place is dropped (R143, R147). -/
def Journal.controlDropped (j : Journal) : Journal :=
  { j with control := none, mode := if j.control = some .closed then .shut else j.mode }

theorem resolvedDropped_eq (l : List Resolution) : ∀ s, ∃ port, resolvedDropped l s = s.setPort port := by
  induction l with
  | nil => exact fun s => ⟨s.port, rfl⟩
  | cons r rest ih =>
    intro s
    obtain ⟨port, h⟩ := ih (resolvedNotice r none s)
    exact ⟨port, h⟩

theorem positionTold_eq : ∃ port, positionTold s
    = { s with position := { s.position with outgoing := none }, port := port } := by
  cases h : s.position.outgoing with
  | none =>
    refine ⟨s.port, ?_⟩
    simp only [positionTold, h]
    rw [← h]
  | some o =>
    simp only [positionTold, h]
    exact ⟨_, rfl⟩

theorem tablesTold_eq : ∃ port, tablesTold s
    = { s with tables := { s.tables with outgoing := none }, port := port } := by
  unfold tablesTold
  split
  · exact ⟨_, rfl⟩
  · exact ⟨s.port, rfl⟩
  next h =>
    refine ⟨s.port, ?_⟩
    rw [← h]

theorem memoryDropped_eq : ∃ port, memoryDropped s
    = { s with memory := { s.memory with resolutions := [] }, port := port } :=
  resolvedDropped_eq s.memory.resolutions _

theorem setEvaluator_self {e : Evaluator} (h : s.evaluator = e) : s.setEvaluator e = s := by
  rw [← h]
  rfl

theorem evaluatorDropped_eq : evaluatorDropped s = s.setEvaluator s.evaluator.placeDropped := by
  cases h : s.evaluator with
  | idle => simp only [evaluatorDropped, h, Evaluator.placeDropped, setEvaluator_self s h]
  | evaluating c => simp only [evaluatorDropped, h, Evaluator.placeDropped, setEvaluator_self s h]
  | awaiting c v w =>
    cases w with
    | place =>
      simp only [evaluatorDropped, h, Evaluator.placeDropped]
      rfl
    | queued n => simp only [evaluatorDropped, h, Evaluator.placeDropped, setEvaluator_self s h]
    | completed n => simp only [evaluatorDropped, h, Evaluator.placeDropped, setEvaluator_self s h]
    | dropped => simp only [evaluatorDropped, h, Evaluator.placeDropped, setEvaluator_self s h]

theorem Journal.controlDropped_of_empty {j : Journal} (h : j.control = none) : j.controlDropped = j := by
  cases j
  cases h
  rfl

theorem controlDropped_eq : ∃ port, tellDropped .control s
    = { s with journal := s.journal.controlDropped, port := port } := by
  cases h : s.journal.control with
  | none =>
    refine ⟨s.port, ?_⟩
    simp only [tellDropped, h, Journal.controlDropped_of_empty h]
  | some c =>
    simp only [tellDropped, h, Journal.controlDropped]
    cases c <;> exact ⟨_, rfl⟩

/-- Told of its dropped entry, a producer empties its place and changes no other block but the port. -/
theorem tellDropped_eq : ∃ port, tellDropped p s =
    { s with
      evaluator := if p = .evaluator then s.evaluator.placeDropped else s.evaluator
      position := if p = .position then { s.position with outgoing := none } else s.position
      tables := if p = .tables then { s.tables with outgoing := none } else s.tables
      memory := if p = .memory then { s.memory with resolutions := [] } else s.memory
      journal := if p = .control then s.journal.controlDropped else s.journal
      port := port } := by
  cases p with
  | evaluator => exact ⟨s.port, evaluatorDropped_eq s⟩
  | position => exact positionTold_eq s
  | tables => exact tablesTold_eq s
  | memory => exact memoryDropped_eq s
  | control => exact controlDropped_eq s

end

/-- The blocks after a list of producers has been told (R131, R137). -/
theorem tellAllDropped_eq (l : List Producer) : ∀ s : State, ∃ port, tellAllDropped l s =
    { s with
      evaluator := if .evaluator ∈ l then s.evaluator.placeDropped else s.evaluator
      position := if .position ∈ l then { s.position with outgoing := none } else s.position
      tables := if .tables ∈ l then { s.tables with outgoing := none } else s.tables
      memory := if .memory ∈ l then { s.memory with resolutions := [] } else s.memory
      journal := if .control ∈ l then s.journal.controlDropped else s.journal
      port := port } := by
  have hevaluator : ∀ e : Evaluator, e.placeDropped.placeDropped = e.placeDropped := by
    intro e
    cases e with
    | idle => rfl
    | evaluating c => rfl
    | awaiting c v w => cases w <;> rfl
  have hjournal : ∀ j : Journal, j.controlDropped.controlDropped = j.controlDropped := by
    intro j
    simp [Journal.controlDropped]
  induction l with
  | nil => exact fun s => ⟨s.port, rfl⟩
  | cons p rest ih =>
    intro s
    obtain ⟨port, hp⟩ := tellDropped_eq p s
    obtain ⟨port', hrest⟩ := ih (tellDropped p s)
    refine ⟨port', hrest.trans ?_⟩
    rw [hp]
    cases p <;> simp [hevaluator, hjournal]

/-- The waiting list told and emptied. -/
theorem dropWaiting_eq (s : State) : ∃ port, dropWaiting s =
    { s with
      evaluator := if .evaluator ∈ s.journal.waiting then s.evaluator.placeDropped else s.evaluator
      position := if .position ∈ s.journal.waiting then { s.position with outgoing := none } else s.position
      tables := if .tables ∈ s.journal.waiting then { s.tables with outgoing := none } else s.tables
      memory := if .memory ∈ s.journal.waiting then { s.memory with resolutions := [] } else s.memory
      journal := if .control ∈ s.journal.waiting then { s.journal.controlDropped with waiting := [] }
        else { s.journal with waiting := [] }
      port := port } :=
  tellAllDropped_eq s.journal.waiting _

/-! ## The write queue dropped (R137) -/

/-- The Evaluator when an entry of the write queue is dropped: it may be the VERDICT entry that it waits for (R95). -/
def Evaluator.entryDropped (e : Entry) : Evaluator → Evaluator
  | .awaiting c v (.queued seq) =>
    match e.body with
    | .verdict .. => if seq = e.seq then toldDropped c v else .awaiting c v (.queued seq)
    | _ => .awaiting c v (.queued seq)
  | ev => ev

theorem entryDropped_of_not_verdict {e : Entry} (h : ∀ x src med key prod, e.body ≠ .verdict x src med key prod)
    (ev : Evaluator) : ev.entryDropped e = ev := by
  unfold Evaluator.entryDropped
  split
  · split
    next hb => exact absurd hb (h _ _ _ _ _)
    next => rfl
  · rfl

theorem entryDropped_of_not_queued {ev : Evaluator} (h : ∀ c v n, ev ≠ .awaiting c v (.queued n)) (e : Entry) :
    ev.entryDropped e = ev := by
  unfold Evaluator.entryDropped
  split
  next c v n => exact absurd rfl (h c v n)
  next => rfl

theorem entryDropped_queued {e : Entry} {x : Verdict} {src : Source} {med : Medium} {key : Key} {prod : Nat}
    (hb : e.body = .verdict x src med key prod) (c : EvalContext) (v : Verdict) (n : Nat) :
    Evaluator.entryDropped e (.awaiting c v (.queued n))
      = if n = e.seq then toldDropped c v else .awaiting c v (.queued n) := by
  simp only [Evaluator.entryDropped, hb]

theorem tellQueueDropped_verdict {e : Entry} {x : Verdict} {src : Source} {med : Medium} {key : Key} {prod : Nat}
    (hb : e.body = .verdict x src med key prod) (s : State) :
    tellQueueDropped e s = s.setEvaluator (s.evaluator.entryDropped e) := by
  simp only [tellQueueDropped, hb]
  split
  next c v n he =>
    rw [he, entryDropped_queued hb]
    by_cases hn : n = e.seq
    · rw [if_pos hn, if_pos hn]
      rfl
    · rw [if_neg hn, if_neg hn, setEvaluator_self s he]
  next hnot => rw [entryDropped_of_not_queued hnot, setEvaluator_self s rfl]

theorem tellQueueDropped_eq (e : Entry) (s : State) : ∃ port, tellQueueDropped e s
    = { s with evaluator := s.evaluator.entryDropped e, port := port } := by
  cases hb : e.body with
  | verdict x src med key prod => exact ⟨s.port, tellQueueDropped_verdict hb s⟩
  | closed =>
    rw [entryDropped_of_not_verdict (by simp [hb])]
    simp only [tellQueueDropped, hb]
    exact ⟨_, rfl⟩
  | consume | runStart | commit | depart | note | mark | started =>
    rw [entryDropped_of_not_verdict (by simp [hb])]
    refine ⟨s.port, ?_⟩
    simp only [tellQueueDropped, hb]

theorem dropEntries_eq (l : List Entry) : ∀ s : State, ∃ port, dropEntries l s
    = { s with evaluator := l.foldl (fun ev e => ev.entryDropped e) s.evaluator, port := port } := by
  induction l with
  | nil => exact fun s => ⟨s.port, rfl⟩
  | cons e rest ih =>
    intro s
    obtain ⟨port, he⟩ := tellQueueDropped_eq e s
    obtain ⟨port', hrest⟩ := ih (tellQueueDropped e s)
    refine ⟨port', hrest.trans ?_⟩
    rw [he]
    rfl

/-- An Evaluator that waits for no entry of the write queue is told nothing. -/
theorem foldl_entryDropped_of_not_queued {ev : Evaluator} (h : ∀ c v n, ev ≠ .awaiting c v (.queued n)) (l : List Entry) :
    l.foldl (fun ev e => ev.entryDropped e) ev = ev := by
  induction l with
  | nil => rfl
  | cons e rest ih => rw [List.foldl_cons, entryDropped_of_not_queued h, ih]

/-- The VERDICT entry that the Evaluator waits for is among those dropped. -/
theorem foldl_entryDropped_of_mem {c : EvalContext} {v : Verdict} {n : Nat} {l : List Entry}
    (h : ∃ f ∈ l, f.seq = n ∧ ∃ x src med key prod, f.body = .verdict x src med key prod) :
    l.foldl (fun ev e => ev.entryDropped e) (.awaiting c v (.queued n)) = toldDropped c v := by
  have hstays : ∀ l : List Entry, l.foldl (fun ev e => ev.entryDropped e) (toldDropped c v) = toldDropped c v :=
    foldl_entryDropped_of_not_queued (by simp [toldDropped])
  induction l with
  | nil => simp at h
  | cons e rest ih =>
    rw [List.foldl_cons]
    by_cases hmine : e.seq = n ∧ ∃ x src med key prod, e.body = .verdict x src med key prod
    · obtain ⟨hseq, x, src, med, key, prod, hb⟩ := hmine
      rw [entryDropped_queued hb, if_pos hseq.symm, hstays]
    · have hrest : ∃ f ∈ rest, f.seq = n ∧ ∃ x src med key prod, f.body = .verdict x src med key prod := by
        obtain ⟨f, hf, hmatch⟩ := h
        rcases List.mem_cons.mp hf with rfl | hf
        · exact absurd hmatch hmine
        · exact ⟨f, hf, hmatch⟩
      have hkeeps : Evaluator.entryDropped e (.awaiting c v (.queued n)) = .awaiting c v (.queued n) := by
        by_cases hb : ∃ x src med key prod, e.body = .verdict x src med key prod
        · have hseq : ¬n = e.seq := fun hn => hmine ⟨hn.symm, hb⟩
          obtain ⟨x, src, med, key, prod, hb⟩ := hb
          rw [entryDropped_queued hb, if_neg hseq]
        · exact entryDropped_of_not_verdict (fun x src med key prod hx => hb ⟨x, src, med, key, prod, hx⟩) _
      rw [hkeeps, ih hrest]

/-! ## The Journal FULL (R131, R137) -/

/-- R137: the write queue and the waiting list dropped, the cause that stands kept. -/
theorem becomeFull_eq (s : State) : ∃ port, becomeFull s =
    State.noticed
      { s with
        evaluator :=
          let e := s.journal.queue.foldl (fun ev e => ev.entryDropped e) s.evaluator
          if .evaluator ∈ s.journal.waiting then e.placeDropped else e
        position := if .position ∈ s.journal.waiting then { s.position with outgoing := none } else s.position
        tables := if .tables ∈ s.journal.waiting then { s.tables with outgoing := none } else s.tables
        memory := if .memory ∈ s.journal.waiting then { s.memory with resolutions := [] } else s.memory
        journal :=
          { s.journal with
            full := some (s.journal.full.getD .noSector)
            queue := [], waiting := []
            mode := if .control ∈ s.journal.waiting ∧ s.journal.control = some .closed then .shut else s.journal.mode
            control := if .control ∈ s.journal.waiting then none else s.journal.control }
        port := port }
      (.journalFull .noSector s.journal.queue.length s.journal.headSector s.journal.mark s.journal.highest
        s.journal.highestAhead) := by
  obtain ⟨port, hq⟩ := dropEntries_eq s.journal.queue
    (s.setJournal { s.journal with full := some (s.journal.full.getD .noSector), queue := [] })
  obtain ⟨port', hw⟩ := dropWaiting_eq (dropEntries s.journal.queue
    (s.setJournal { s.journal with full := some (s.journal.full.getD .noSector), queue := [] }))
  refine ⟨port', ?_⟩
  rw [becomeFull, hw, hq]
  by_cases hc : Producer.control ∈ s.journal.waiting
  · simp only [State.setJournal, hc, if_true, true_and]
    rfl
  · simp only [State.setJournal, hc, if_false, false_and]
    rfl

/-- The blocks of a state whose Journal has become FULL, the JOURNAL_FULL notice apart. -/
structure FullAfter (s u : State) : Prop where
  evaluator : u.evaluator =
    if .evaluator ∈ s.journal.waiting then
      (s.journal.queue.foldl (fun ev e => ev.entryDropped e) s.evaluator).placeDropped
    else s.journal.queue.foldl (fun ev e => ev.entryDropped e) s.evaluator
  position : u.position =
    if .position ∈ s.journal.waiting then { s.position with outgoing := none } else s.position
  tables : u.tables = if .tables ∈ s.journal.waiting then { s.tables with outgoing := none } else s.tables
  memory : u.memory = if .memory ∈ s.journal.waiting then { s.memory with resolutions := [] } else s.memory
  journal : u.journal =
    { s.journal with
      full := some (s.journal.full.getD .noSector)
      queue := [], waiting := []
      mode := if .control ∈ s.journal.waiting ∧ s.journal.control = some .closed then .shut else s.journal.mode
      control := if .control ∈ s.journal.waiting then none else s.journal.control }
  intake : u.intake = s.intake
  settings : u.settings = s.settings

theorem becomeFull_parts (s : State) : ∃ u : State, becomeFull s = u.noticed
    (.journalFull .noSector s.journal.queue.length s.journal.headSector s.journal.mark s.journal.highest
      s.journal.highestAhead) ∧ FullAfter s u := by
  obtain ⟨port, h⟩ := becomeFull_eq s
  refine ⟨_, h, ?_⟩
  exact ⟨rfl, rfl, rfl, rfl, rfl, rfl, rfl⟩

namespace FullAfter

variable {s u : State}

theorem slots (h : FullAfter s u) : u.memory.slots = s.memory.slots := by
  rw [h.memory]
  split <;> rfl

theorem pendingList (h : FullAfter s u) : u.memory.pendingList = s.memory.pendingList := by
  rw [h.memory]
  split <;> rfl

/-- R95: the VERDICT entry that the Evaluator waits for was in the write queue. -/
theorem evaluator_queued (h : FullAfter s u) {c : EvalContext} {v : Verdict} {n : Nat}
    (he : s.evaluator = .awaiting c v (.queued n))
    (hmine : ∃ f ∈ s.journal.queue, f.seq = n ∧ ∃ x src med key prod, f.body = .verdict x src med key prod) :
    u.evaluator = toldDropped c v := by
  rw [h.evaluator, he, foldl_entryDropped_of_mem hmine]
  split <;> rfl

/-- R95: the VERDICT entry waited for a place. -/
theorem evaluator_place (h : FullAfter s u) {c : EvalContext} {v : Verdict}
    (he : s.evaluator = .awaiting c v .place) (hw : .evaluator ∈ s.journal.waiting) : u.evaluator = toldDropped c v := by
  rw [h.evaluator, if_pos hw, he, foldl_entryDropped_of_not_queued (by simp)]
  rfl

/-- An Evaluator that waits for no entry is told nothing. -/
theorem evaluator_keeps (h : FullAfter s u) (hq : ∀ c v n, s.evaluator ≠ .awaiting c v (.queued n))
    (hp : .evaluator ∈ s.journal.waiting → ∀ c v, s.evaluator ≠ .awaiting c v .place) : u.evaluator = s.evaluator := by
  rw [h.evaluator, foldl_entryDropped_of_not_queued hq]
  split
  next hw =>
    unfold Evaluator.placeDropped
    split
    next c v he => exact absurd he (hp hw c v)
    next => rfl
  next => rfl

end FullAfter

end Sys2Proof.Machine
end

section
/-! SUPPORT. The Journal at work: the head's move, the programs and the erases (R129 to R138). -/

namespace Sys2Proof.Machine

/-! ## Sectors -/

/-- R134: the sector ahead of a ring of 64 is never the head sector. -/
theorem ahead_ne (h : Nat) : (h + 1) % 64 ≠ h := by omega

section
variable {j : Journal} {k : Nat}

theorem takenOff_iff (slots : List (Nat × JSlot)) (mark k : Nat) :
    takenOff slots mark k = true ↔ ∀ f ∈ sectorEntries slots k, f.seq ≤ mark := by
  simp [takenOff]

/-- R135: the sector ahead is reclaimable by its entries alone. -/
theorem reclaimable_ahead_iff (j : Journal) :
    j.reclaimable ((j.headSector + 1) % 64) = true ↔ ∀ f ∈ sectorEntries j.slots ((j.headSector + 1) % 64), f.seq ≤ j.mark := by
  simp [Journal.reclaimable, takenOff_iff, ahead_ne]

theorem entrySlots_pos (b : EntryBody) : 0 < entrySlots b := by
  unfold entrySlots
  split <;> omega

theorem fits_iff (j : Journal) (b : EntryBody) : j.fits b = true ↔ j.headSlot + entrySlots b ≤ 64 := by
  have hpos := entrySlots_pos b
  show decide (entrySlots b ≤ 64 - j.headSlot) = true ↔ _
  rw [decide_eq_true_iff]
  omega

theorem headBlocked_cons {e : Entry} {rest : List Entry} (hq : j.queue = e :: rest) :
    headBlocked j = true ↔ 64 < j.headSlot + entrySlots e.body := by
  rw [headBlocked, hq]
  simp [← Bool.not_eq_true, fits_iff]

/-- R137: the cause of FULL that stands, numbers exhausted before want of a sector. -/
theorem standing_cause (f : Option FullCause) : some (f.getD .noSector)
    = if f = some .exhausted then some .exhausted else some .noSector := by
  cases f with
  | none => rfl
  | some c => cases c <;> rfl

end

/-! ## HEAD_MOVE (R134) -/

section
variable {s : State} {e : Entry} {rest : List Entry}

theorem headMustMove_of (hop : s.journal.op = none) (hmode : s.journal.mode ≠ .recovering) (hdue : eraseDue s = false)
    (hblocked : headBlocked s.journal = true) : headMustMove s = true := by
  simp [headMustMove, flashFree, hop, hmode, hdue, hblocked]

theorem headMustMove_held (h : s.journal.op ≠ none ∨ eraseDue s = true) : headMustMove s = false := by
  rcases h with h | h
  · simp [headMustMove, flashFree, h]
  · simp [headMustMove, h]

theorem moveHead_erased (h : s.journal.sectorState s.journal.ahead = .erased) :
    moveHead s = s.setJournal { s.journal with headSector := s.journal.ahead, headSlot := 0 } := by
  rw [moveHead, h]

theorem moveHead_waits (h : s.journal.sectorState s.journal.ahead = .inUse)
    (hrec : s.journal.reclaimable s.journal.ahead = true) : moveHead s = s := by
  rw [moveHead, h]
  exact if_pos hrec

theorem moveHead_full (h : s.journal.sectorState s.journal.ahead = .inUse)
    (hrec : ¬s.journal.reclaimable s.journal.ahead = true) : moveHead s = becomeFull s := by
  rw [moveHead, h]
  exact if_neg hrec

end

/-- An entry above the mark keeps its sector from being reclaimed. -/
theorem not_reclaimable_of {j : Journal} (h : ∃ f ∈ sectorEntries j.slots ((j.headSector + 1) % 64), j.mark < f.seq) :
    ¬j.reclaimable ((j.headSector + 1) % 64) = true := by
  rw [reclaimable_ahead_iff]
  obtain ⟨f, hf, hlt⟩ := h
  exact fun hall => Nat.not_le.mpr hlt (hall f hf)

/-- Settles O48: the head held, moved, waiting, or the Journal FULL. -/
theorem headMoves : Obligations.HeadMoves := by
  rintro e rest _ s hpow hmode hq hbig rfl
  refine ⟨fun hop => if_pos hop, fun hheld => act_idle moveHead (headMustMove_held hheld), fun hop hdue => ?_⟩
  have hexec : exec .headMove s = .next (settle (moveHead s)) :=
    act_occurs moveHead hpow (headMustMove_of hop hmode hdue ((headBlocked_cons hq).mpr hbig))
  rw [hexec]
  refine ⟨fun herased => ?_, fun huse hall => ?_, fun huse habove => ?_⟩
  · rw [moveHead_erased herased]
    rfl
  · rw [moveHead_waits huse ((reclaimable_ahead_iff s.journal).mpr hall)]
  · rw [moveHead_full huse (not_reclaimable_of habove)]
    obtain ⟨u, hfull, hu⟩ := becomeFull_parts s
    rw [hfull]
    refine ⟨u, rfl, ?_, hu.intake, hu.settings, hu.slots, hu.pendingList, fun c v n => hu.evaluator_queued,
      fun c v => hu.evaluator_place, fun he => ?_, fun hw => ?_, fun hw => ?_, fun hw => ?_⟩
    · rw [hu.journal, standing_cause]
    · refine hu.evaluator_keeps (fun c v n hc => ?_) fun _ c v hc => ?_
      · simpa using he c v _ hc
      · simpa using he c v _ hc
    · rw [hu.position, if_pos hw]
    · rw [hu.tables, if_pos hw]
    · rw [hu.memory, if_pos hw]

/-! ## Programs (R129, R133) -/

/-- R129, R133: the slots of an entry, and no other, after its program. -/
theorem lookupAt_putParts (base : Nat) (e : Entry) (n : Nat) {slots : List (Nat × JSlot)} (h : risingKeys slots = true) :
    ∀ a, lookupAt (putParts base e n slots) a
      = if base ≤ a ∧ a < base + n then some (.part e (a - base)) else lookupAt slots a := by
  induction n with
  | zero =>
    intro a
    rw [if_neg (by omega)]
    rfl
  | succ n ih =>
    intro a
    rw [putParts, lookupAt_putAt _ (base + n) a _ (risingKeys_putParts base e n h), ih]
    by_cases hlast : base + n = a
    · rw [if_pos hlast, if_pos (by omega), show a - base = n by omega]
    · rw [if_neg hlast]
      exact if_congr (by omega) rfl rfl

section
variable {s : State} {e : Entry} {rest : List Entry}

theorem programDue_of (hop : s.journal.op = none) (hmode : s.journal.mode ≠ .recovering) (hdue : eraseDue s = false)
    (hq : s.journal.queue = e :: rest) (hfits : s.journal.headSlot + entrySlots e.body ≤ 64) :
    programDue s = true := by
  have hblocked : headBlocked s.journal = false := by
    rw [← Bool.not_eq_true, headBlocked_cons hq]
    omega
  simp [programDue, flashFree, hop, hmode, hdue, hq, hblocked]

theorem finishProgram_cons (hq : s.journal.queue = e :: rest) :
    finishProgram s = fullAfterProgram (tellCompleted e (s.setJournal (s.journal.programmed e rest))) := by
  simp only [finishProgram, hq]

/-- R95, R147: a completed entry's producer, block by block. -/
theorem tellCompleted_eq (e : Entry) (s : State) : ∃ ev port, tellCompleted e s = { s with evaluator := ev, port := port } := by
  unfold tellCompleted
  split
  · split
    · split
      · exact ⟨_, s.port, rfl⟩
      · exact ⟨s.evaluator, s.port, rfl⟩
    · exact ⟨s.evaluator, s.port, rfl⟩
  · exact ⟨s.evaluator, _, rfl⟩
  · exact ⟨s.evaluator, s.port, rfl⟩

section
variable {x : Verdict} {src : Source} {med : Medium} {key : Key} {prod : Nat}

theorem tellCompleted_mine {c : EvalContext} {v : Verdict} (hb : e.body = .verdict x src med key prod)
    (he : s.evaluator = .awaiting c v (.queued e.seq)) :
    tellCompleted e s = s.setEvaluator (.awaiting c v (.completed e.seq)) := by
  simp only [tellCompleted, hb, he, if_true]

theorem tellCompleted_not_mine (hb : e.body = .verdict x src med key prod)
    (he : ∀ c v, s.evaluator ≠ .awaiting c v (.queued e.seq)) : tellCompleted e s = s := by
  simp only [tellCompleted, hb]
  split
  next c v n hn =>
    refine if_neg ?_
    rintro rfl
    exact he c v hn
  next => rfl

end

theorem tellCompleted_closed (hb : e.body = .closed) : tellCompleted e s = s.filled 67 (Reply.bare .ok) := by
  simp only [tellCompleted, hb]
  rfl

theorem tellCompleted_other (hclosed : e.body ≠ .closed)
    (hverdict : ∀ x src med key prod, e.body ≠ .verdict x src med key prod) : tellCompleted e s = s := by
  unfold tellCompleted
  split
  next hb => exact absurd hb (hverdict _ _ _ _ _)
  next hb => exact absurd hb hclosed
  next => rfl

theorem noSectorAhead_iff (j : Journal) : noSectorAhead j = true ↔ j.sectorState ((j.headSector + 1) % 64) = .inUse
    ∧ ∃ f ∈ sectorEntries j.slots ((j.headSector + 1) % 64), j.mark < f.seq := by
  have hrec : j.reclaimable j.ahead = false ↔ ∃ f ∈ sectorEntries j.slots ((j.headSector + 1) % 64), j.mark < f.seq := by
    rw [← Bool.not_eq_true]
    refine (not_congr (reclaimable_ahead_iff j)).trans ?_
    simp
  rw [← hrec]
  simp [noSectorAhead, Journal.ahead, sectorCount]

theorem headBlocked_iff (j : Journal) :
    headBlocked j = true ↔ ∃ f more, j.queue = f :: more ∧ 64 < j.headSlot + entrySlots f.body := by
  cases hq : j.queue with
  | nil => simp [headBlocked, hq]
  | cons f more => simp [headBlocked_cons hq]

/-- R136, R137: the Journal goes on after a completion. -/
theorem fullAfterProgram_stays
    (h : (∀ f more, s.journal.queue = f :: more → s.journal.headSlot + entrySlots f.body ≤ 64) ∨ s.journal.waiting ≠ []
      ∨ s.journal.sectorState ((s.journal.headSector + 1) % 64) ≠ .inUse
      ∨ (∀ f ∈ sectorEntries s.journal.slots ((s.journal.headSector + 1) % 64), f.seq ≤ s.journal.mark)) :
    fullAfterProgram s = s := by
  refine if_neg ?_
  rintro ⟨hwait, hblocked, hnone⟩
  obtain ⟨f, more, hq, hbig⟩ := (headBlocked_iff s.journal).mp hblocked
  obtain ⟨huse, g, hg, habove⟩ := (noSectorAhead_iff s.journal).mp hnone
  rcases h with h | h | h | h
  · exact absurd (h f more hq) (by omega)
  · exact h hwait
  · exact h huse
  · exact absurd (h g hg) (by omega)

end

/-- Settles O47: the program's start, and its completion with or without the Journal FULL behind it. -/
theorem entriesAreProgrammed : Obligations.EntriesAreProgrammed := by
  refine ⟨fun e rest s hpow hop hmode hdue hq hfits => ?_, fun e rest s hpow hop hq hrising => ?_⟩
  · exact act_occurs (fun s => s.setJournal { s.journal with op := some .program }) hpow
      (programDue_of hop hmode hdue hq hfits)
  have hexec : exec .entryProgramDone s
      = .next (settle (fullAfterProgram (tellCompleted e (s.setJournal (s.journal.programmed e rest))))) := by
    rw [← finishProgram_cons hq]
    exact act_occurs finishProgram hpow (by rw [hop]; rfl)
  obtain ⟨ev, port, htold⟩ := tellCompleted_eq e (s.setJournal (s.journal.programmed e rest))
  have hjournal : (tellCompleted e (s.setJournal (s.journal.programmed e rest))).journal = s.journal.programmed e rest := by
    rw [htold]
    rfl
  refine ⟨(s.journal.programmed e rest).slots, s.setJournal (s.journal.programmed e rest),
    tellCompleted e (s.setJournal (s.journal.programmed e rest)), lookupAt_putParts _ e _ hrising, rfl,
    fun c v x src med key prod hb he => tellCompleted_mine hb he,
    fun x src med key prod hb he => tellCompleted_not_mine hb he, tellCompleted_closed, tellCompleted_other,
    fun hstays => ?_, fun hblocked hwait huse habove => ?_⟩
  · rw [hexec, fullAfterProgram_stays]
    rw [hjournal]
    exact hstays
  · have hfull : fullAfterProgram (tellCompleted e (s.setJournal (s.journal.programmed e rest)))
        = becomeFull (tellCompleted e (s.setJournal (s.journal.programmed e rest))) := by
      refine if_pos ?_
      rw [hjournal]
      exact ⟨hwait, (headBlocked_iff _).mpr hblocked, (noSectorAhead_iff _).mpr ⟨huse, habove⟩⟩
    obtain ⟨u, hu, hparts⟩ := becomeFull_parts (tellCompleted e (s.setJournal (s.journal.programmed e rest)))
    rw [hexec, hfull, hu]
    have hnobody : ∀ p, p ∉ (tellCompleted e (s.setJournal (s.journal.programmed e rest))).journal.waiting := by
      intro p
      rw [hjournal]
      show p ∉ s.journal.waiting
      simp [hwait]
    refine ⟨u, ?_, ?_, ?_, ?_, ?_, ?_, ?_, fun c v n he hmine => ?_, fun hq => ?_⟩
    · rw [hjournal]
      rfl
    · rw [hparts.journal, if_neg (by simp [hnobody]), if_neg (hnobody .control), standing_cause, hjournal, ← hwait]
      rfl
    · rw [hparts.intake, htold]
      rfl
    · rw [hparts.settings, htold]
      rfl
    · rw [hparts.memory, if_neg (hnobody .memory), htold]
      rfl
    · rw [hparts.position, if_neg (hnobody .position), htold]
      rfl
    · rw [hparts.tables, if_neg (hnobody .tables), htold]
      rfl
    · exact hparts.evaluator_queued he (by rw [hjournal]; exact hmine)
    · exact hparts.evaluator_keeps hq fun hmem => absurd hmem (hnobody .evaluator)

/-! ## Erases (R135, R138, R145) -/

section
variable {s : State}

theorem streamHolds_eq_false_iff (stream : List Nat) (slots : List (Nat × JSlot)) (k : Nat) :
    streamHolds stream slots k = false ↔ ∀ e ∈ sectorEntries slots k, e.seq ∉ stream := by
  simp [streamHolds]

theorem closedQueued_iff (q : List Entry) : closedQueued q = true ↔ ∃ e ∈ q, e.body = .closed := by
  simp [closedQueued]

/-- R135, fourth condition. -/
theorem eraseMode_iff (j : Journal) (restarting : Bool) : eraseMode j restarting = true ↔
    j.mode = .opened ∨ j.mode = .shutting
      ∨ (j.mode = .shut ∧ (restarting = true ∨ ∃ e ∈ j.queue, e.body = .closed)) := by
  cases h : j.mode <;> simp [eraseMode, h, closedQueued_iff]

/-- R135: the four conditions of an erase that is due. -/
theorem eraseDue_iff (s : State) : eraseDue s = true ↔
    s.journal.sectorState ((s.journal.headSector + 1) % 64) = .inUse
      ∧ (∀ e ∈ sectorEntries s.journal.slots ((s.journal.headSector + 1) % 64),
          e.seq ≤ s.journal.mark ∧ e.seq ∉ s.port.stream)
      ∧ s.intake.causes.safe = false
      ∧ (s.journal.mode = .opened ∨ s.journal.mode = .shutting
        ∨ (s.journal.mode = .shut ∧ (s.intake.causes.restarting = true ∨ ∃ e ∈ s.journal.queue, e.body = .closed))) := by
  have hahead : s.journal.ahead = (s.journal.headSector + 1) % 64 := rfl
  simp only [eraseDue, hahead, Bool.and_eq_true, beq_iff_eq, Bool.not_eq_true', reclaimable_ahead_iff,
    streamHolds_eq_false_iff, eraseMode_iff, State.safe, State.restarting]
  constructor
  · rintro ⟨⟨⟨⟨huse, hmark⟩, hstream⟩, hsafe⟩, hmode⟩
    exact ⟨huse, fun e he => ⟨hmark e he, hstream e he⟩, hsafe, hmode⟩
  · rintro ⟨huse, hboth, hsafe, hmode⟩
    exact ⟨⟨⟨⟨huse, fun e he => (hboth e he).1⟩, fun e he => (hboth e he).2⟩, hsafe⟩, hmode⟩

theorem finishJournalErase_of_op {k : Nat} (hop : s.journal.op = some (.erase k)) :
    finishJournalErase s = if s.journal.mode = .recovering then
        s.setJournal { s.journal.erasedSector k with recovery := s.journal.recovery.map Recovery.next }
      else endFull k (s.setJournal (s.journal.erasedSector k)) := by
  simp only [finishJournalErase, hop, erasingSector]
  rfl

end

/-- Settles O49: the erase's start by R135's conditions, and its completion by the Journal's mode and FULL. -/
theorem journalSectorErased : Obligations.JournalSectorErased := by
  refine ⟨?_, fun k s hpow hop => ?_⟩
  · rintro _ due s hpow rfl hdue
    have hiff : due ↔ eraseDue s = true := hdue.trans (eraseDue_iff s).symm
    refine ⟨ahead_ne _, hiff, fun h hop => ?_, fun h => ?_⟩
    · exact act_occurs (fun s => s.setJournal { s.journal with op := some (.erase s.journal.ahead) }) hpow
        (by simp [hop, hiff.mp h])
    · refine act_idle (fun s => s.setJournal { s.journal with op := some (.erase s.journal.ahead) }) ?_
      rcases h with h | h
      · simp [Bool.eq_false_iff.mpr (fun hd => h (hiff.mpr hd))]
      · simp [h]
  · have hexec : exec .journalSectorEraseDone s = .next (settle (finishJournalErase s)) :=
      act_occurs finishJournalErase hpow (by rw [hop]; rfl)
    refine ⟨(s.journal.erasedSector k).slots, s.setJournal (s.journal.erasedSector k), fun a => ?_, rfl,
      fun hmode hfull => ?_, fun hmode hfull => ?_, fun r hmode hr => ?_⟩
    · exact (lookupAt_dropRange s.journal.slots (k * 64) ((k + 1) * 64) a).trans (if_congr (by omega) rfl rfl)
    · rw [hexec, finishJournalErase_of_op hop, if_neg hmode, endFull, if_neg (by exact hfull)]
    · rw [hexec, finishJournalErase_of_op hop, if_neg hmode, endFull, if_pos (by exact hfull)]
      rfl
    · rw [hexec, finishJournalErase_of_op hop, if_pos hmode, hr]
      rfl

end Sys2Proof.Machine
end

section
/-! SUPPORT. The stream of EXPORT_READ (R140, R159), and the waiting list served (R131, R132). -/

namespace Sys2Proof.Machine

/-! ## The stream of EXPORT_READ (R140) -/

theorem insertAscending_perm (n : Nat) (l : List Nat) : (insertAscending n l).Perm (n :: l) := by
  induction l with
  | nil => exact .refl _
  | cons m rest ih =>
    by_cases h : n ≤ m
    · simp [insertAscending, h]
    · simp only [insertAscending, h, if_false]
      exact (ih.cons m).trans (.swap n m rest)

theorem ascending_perm (l : List Nat) : (ascending l).Perm l := by
  induction l with
  | nil => exact .refl _
  | cons n rest ih => exact (insertAscending_perm n _).trans (ih.cons n)

theorem insertAscending_pairwise {n : Nat} {l : List Nat} (h : l.Pairwise (· ≤ ·)) :
    (insertAscending n l).Pairwise (· ≤ ·) := by
  induction l with
  | nil => simp [insertAscending]
  | cons m rest ih =>
    obtain ⟨hm, hrest⟩ := List.pairwise_cons.mp h
    by_cases hle : n ≤ m
    · simp only [insertAscending, hle, if_true]
      refine List.pairwise_cons.mpr ⟨fun x hx => ?_, h⟩
      rcases List.mem_cons.mp hx with rfl | hx
      · exact hle
      · exact hle.trans (hm x hx)
    · simp only [insertAscending, hle, if_false]
      refine List.pairwise_cons.mpr ⟨fun x hx => ?_, ih hrest⟩
      rcases List.mem_cons.mp ((insertAscending_perm n rest).mem_iff.mp hx) with rfl | hx
      · omega
      · exact hm x hx

theorem ascending_pairwise (l : List Nat) : (ascending l).Pairwise (· ≤ ·) := by
  induction l with
  | nil => exact .nil
  | cons n rest ih => exact insertAscending_pairwise ih

/-- The first of an ascending list, up to a count: what is left out is not below what is taken. -/
theorem mem_take_or_le {l : List Nat} (h : l.Pairwise (· ≤ ·)) (count : Nat) {n : Nat} (hn : n ∈ l) :
    n ∈ l.take count ∨ ((l.take count).length = count ∧ ∀ m ∈ l.take count, m ≤ n) := by
  rw [← List.take_append_drop count l] at hn h
  rcases List.mem_append.mp hn with hn | hn
  · exact .inl hn
  · have hlong : count ≤ l.length := by
      by_contra hshort
      rw [List.drop_eq_nil_of_le (by omega)] at hn
      cases hn
    exact .inr ⟨List.length_take_of_le hlong, fun m hm => (List.pairwise_append.mp h).2.2 m hm n hn⟩

section
variable {j : Journal}

/-- R140: the readable entries of a ring (log entry 36). -/
theorem mem_readableNumbers (n : Nat) : n ∈ readableNumbers j
    ↔ ∃ x ∈ completeEntries j.slots, x.2.seq = n ∧ j.op ≠ some (.erase (x.1 / 64)) := by
  simp only [readableNumbers, List.mem_map, List.mem_filter, bne_iff_ne, sectorOf, slotsPerSector]
  exact ⟨fun ⟨x, ⟨hx, hop⟩, hn⟩ => ⟨x, hx, hn, hop⟩, fun ⟨x, hx, hn, hop⟩ => ⟨x, ⟨hx, hop⟩, hn⟩⟩

theorem mem_of_mem_streamOf {start count n : Nat} (h : n ∈ streamOf j start count) : start ≤ n
    ∧ ∃ x ∈ completeEntries j.slots, x.2.seq = n ∧ j.op ≠ some (.erase (x.1 / 64)) := by
  have hall := (ascending_perm _).mem_iff.mp (List.mem_of_mem_take h)
  obtain ⟨hread, hstart⟩ := List.mem_filter.mp hall
  exact ⟨of_decide_eq_true hstart, (mem_readableNumbers n).mp hread⟩

theorem mem_streamOf_or_le {start count : Nat} {x : Nat × Entry} (hx : x ∈ completeEntries j.slots)
    (hop : j.op ≠ some (.erase (x.1 / 64))) (hstart : start ≤ x.2.seq) : x.2.seq ∈ streamOf j start count
      ∨ ((streamOf j start count).length = count ∧ ∀ n ∈ streamOf j start count, n ≤ x.2.seq) := by
  refine mem_take_or_le (ascending_pairwise _) count ((ascending_perm _).mem_iff.mpr ?_)
  exact List.mem_filter.mpr ⟨(mem_readableNumbers _).mpr ⟨x, hx, rfl, hop⟩, decide_eq_true hstart⟩

end

theorem firstOfStream_eq (oldest start : Nat) (l : List Nat) :
    firstOfStream oldest start l = if l = [] then 0 else max start oldest := by
  cases l <;> rfl

theorem takeExportRead_some {payload : List Byte} {start count : Nat} (s : State)
    (h : readExportRead payload = some (start, count)) : takeExportRead payload s =
      respond clsExportRead
        (Reply.with .ok (be4 (firstOfStream s.journal.oldest start (streamOf s.journal start count))
          ++ be2 (streamOf s.journal start count).length))
        (setStream (streamOf s.journal start count) s) := by
  simp only [takeExportRead, h]

/-- Settles O50: the stream is the readable numbers, ascending, cut to the count. -/
theorem exportStreamFixed : Obligations.ExportStreamFixed := by
  intro payload start count s hframe hctl hread
  have hexec : exec .exportRead s = .next (settle (takeExportRead payload (takeFrame s))) :=
    dispatch_journal_of_holdsFrame takeExportRead hframe hctl
  refine ⟨streamOf s.journal start count, ?_, List.length_take_le _ _, (ascending_pairwise _).sublist (List.take_sublist _ _),
    fun n => mem_of_mem_streamOf, fun x => mem_streamOf_or_le⟩
  rw [hexec, takeExportRead_some _ hread, firstOfStream_eq]
  rfl

/-! ## The waiting list served (R132) -/

section
variable {s : State} {p : Producer} {rest : List Producer} {d : Draft}

/-- The head producer has left the waiting list. -/
def State.served (s : State) (rest : List Producer) : State := s.setJournal { s.journal with waiting := rest }

theorem draftOf_served (s : State) (rest : List Producer) (p : Producer) : draftOf (s.served rest) p = draftOf s p := by
  cases p <;> rfl

theorem placeForWaiting_of (hw : s.journal.waiting = p :: rest) (hroom : s.journal.queue.length < 8)
    (htakes : s.takesEntries) (hfull : s.journal.full = none) : placeForWaiting s = true := by
  simp [placeForWaiting, hw, writeQueueLimit, hroom, takesEntries_not_recovering htakes,
    dropping_eq_false hfull htakes]

theorem queueWaiting_cons (hw : s.journal.waiting = p :: rest) : queueWaiting s = enqueue p (s.served rest) := by
  simp only [queueWaiting, hw]
  rfl

/-- R130, R132: the entry of the head producer takes the next number. -/
theorem queueWaiting_of_number (hw : s.journal.waiting = p :: rest) (hd : draftOf s p = some d)
    (hn : s.journal.nextSeq < 4294967295) : queueWaiting s
      = tellQueued p s.journal.nextSeq ((s.served rest).entered (d.run.getD s.position.run) d.body) := by
  rw [queueWaiting_cons hw, enqueue_of_number ((draftOf_served s rest p).trans hd) (by exact hn)]
  rfl

theorem queueWaiting_of_last (hw : s.journal.waiting = p :: rest) (hd : draftOf s p = some d)
    (hn : s.journal.nextSeq = 4294967295) : queueWaiting s
      = exhaust (tellQueued p s.journal.nextSeq ((s.served rest).entered (d.run.getD s.position.run) d.body)) := by
  rw [queueWaiting_cons hw, enqueue_of_last ((draftOf_served s rest p).trans hd) (by exact hn)]
  rfl

end

section
variable {x : State} {n : Nat}

theorem evaluatorQueued_of_place {c : EvalContext} {v : Verdict} (h : x.evaluator = .awaiting c v .place) :
    tellQueued .evaluator n x = { x with evaluator := .awaiting c { v with seq := some n } (.queued n) } := by
  simp only [tellQueued, evaluatorQueued, h]
  rfl

theorem positionTold_of_outgoing {o : PosOutgoing} (h : x.position.outgoing = some o) : tellQueued .position n x
    = { x with position := { x.position with outgoing := none } }.filled o.cls (Reply.with .ok o.content) := by
  simp only [tellQueued, positionTold, h]
  rfl

theorem tablesTold_of_scheduled {generation epochDay previous : Nat}
    (h : x.tables.outgoing = some (.commit generation epochDay previous .scheduled)) :
    tellQueued .tables n x = { x with tables := { x.tables with outgoing := none } } := by
  simp only [tellQueued, tablesTold, h]
  rfl

theorem tablesTold_of_immediate {generation epochDay previous : Nat}
    (h : x.tables.outgoing = some (.commit generation epochDay previous .immediate)) : tellQueued .tables n x
      = { x with tables := { x.tables with outgoing := none } }.filled 51 (Reply.with .ok (be4 generation)) := by
  simp only [tellQueued, tablesTold, h]
  rfl

theorem memoryQueued_of_cons {r : Resolution} {more : List Resolution} (h : x.memory.resolutions = r :: more)
    (hnot : Producer.memory ∉ x.journal.waiting) : tellQueued .memory n x =
      { x.noticed (.consumeResolved r.tag r.key r.outcome (tripOf x.memory.slots r.key) (some n)) with
        memory := { x.memory with resolutions := more }
        journal :=
          { x.journal with
            waiting := if more = [] then x.journal.waiting else x.journal.waiting ++ [.memory] } } := by
  simp only [tellQueued, memoryQueued, h]
  cases more with
  | nil => rfl
  | cons r' more =>
    refine (if_neg (by simp)).trans ((joinWaiting_new (by exact hnot)).trans ?_)
    rfl

theorem controlTold_of_item {item : ControlItem} (h : x.journal.control = some item) :
    tellQueued .control n x = controlTold item (some n) x := by
  simp only [tellQueued, h]

end

/-- R131: the blocks after the last number was given, the JOURNAL_FULL notice apart. -/
structure ExhaustedAfter (s u : State) : Prop where
  evaluator : u.evaluator = if .evaluator ∈ s.journal.waiting then s.evaluator.placeDropped else s.evaluator
  position : u.position =
    if .position ∈ s.journal.waiting then { s.position with outgoing := none } else s.position
  tables : u.tables = if .tables ∈ s.journal.waiting then { s.tables with outgoing := none } else s.tables
  memory : u.memory = if .memory ∈ s.journal.waiting then { s.memory with resolutions := [] } else s.memory
  journal : u.journal =
    { s.journal with
      full := some .exhausted, waiting := []
      mode := if .control ∈ s.journal.waiting ∧ s.journal.control = some .closed then .shut else s.journal.mode
      control := if .control ∈ s.journal.waiting then none else s.journal.control }

theorem exhaust_parts (s : State) : ∃ u : State, exhaust s = u.noticed
    (.journalFull .exhausted 0 s.journal.headSector s.journal.mark s.journal.highest s.journal.highestAhead)
      ∧ ExhaustedAfter s u := by
  obtain ⟨port, hw⟩ := dropWaiting_eq (s.setJournal { s.journal with full := some .exhausted })
  have hjournal : (dropWaiting (s.setJournal { s.journal with full := some .exhausted })).journal =
      { s.journal with
        full := some .exhausted, waiting := []
        mode := if .control ∈ s.journal.waiting ∧ s.journal.control = some .closed then .shut else s.journal.mode
        control := if .control ∈ s.journal.waiting then none else s.journal.control } := by
    rw [hw]
    by_cases hc : Producer.control ∈ s.journal.waiting
    · simp only [State.setJournal, hc, if_true, true_and]
      rfl
    · simp only [State.setJournal, hc, if_false, false_and]
  refine ⟨dropWaiting (s.setJournal { s.journal with full := some .exhausted }), ?_, ?_, ?_, ?_, ?_, hjournal⟩
  · rw [exhaust, fullNotice, hjournal]
    rfl
  · rw [hw]
    rfl
  · rw [hw]
    rfl
  · rw [hw]
    rfl
  · rw [hw]
    rfl

/-- What the queueing of an entry leaves of the Journal, and of the places that are dropped behind it. -/
structure QueuedTold (p : Producer) (x y : State) : Prop where
  journal : ∃ mode control waiting,
    y.journal = { x.journal with mode := mode, control := control, waiting := waiting }
      ∧ (∀ q ∈ x.journal.waiting, q ∈ waiting)
  control : p = .control → y.journal.control = none
  memory : p = .memory → y.memory.resolutions = [] ∨ .memory ∈ y.journal.waiting
  position : p = .position → y.position.outgoing = none
  tables : p = .tables → y.tables.outgoing = none
  evaluator : p ≠ .evaluator → y.evaluator = x.evaluator

theorem queuedTold_evaluator (n : Nat) (x : State) : QueuedTold .evaluator x (tellQueued .evaluator n x) := by
  have hjournal : (tellQueued .evaluator n x).journal = x.journal := by
    simp only [tellQueued, evaluatorQueued]
    split <;> rfl
  exact ⟨⟨_, _, _, hjournal, fun _ h => h⟩, by simp, by simp, by simp, by simp, by simp⟩

theorem queuedTold_position (n : Nat) (x : State) : QueuedTold .position x (tellQueued .position n x) := by
  obtain ⟨port, h⟩ := positionTold_eq x
  show QueuedTold .position x (positionTold x)
  rw [h]
  exact ⟨⟨_, _, _, rfl, fun _ h => h⟩, by simp, by simp, by simp, by simp, by simp⟩

theorem queuedTold_tables (n : Nat) (x : State) : QueuedTold .tables x (tellQueued .tables n x) := by
  obtain ⟨port, h⟩ := tablesTold_eq x
  show QueuedTold .tables x (tablesTold x)
  rw [h]
  exact ⟨⟨_, _, _, rfl, fun _ h => h⟩, by simp, by simp, by simp, by simp, by simp⟩

theorem joinWaiting_journal (p : Producer) (x : State) : ∃ waiting,
    joinWaiting p x = x.setJournal { x.journal with waiting := waiting }
      ∧ (∀ q ∈ x.journal.waiting, q ∈ waiting) ∧ p ∈ waiting := by
  by_cases hp : p ∈ x.journal.waiting
  · exact ⟨x.journal.waiting, by simp [joinWaiting, hp, State.setJournal], fun _ h => h, hp⟩
  · exact ⟨_, joinWaiting_new hp, fun q hq => List.mem_append_left _ hq, by simp⟩

theorem queuedTold_memory (n : Nat) (x : State) : QueuedTold .memory x (tellQueued .memory n x) := by
  cases hr : x.memory.resolutions with
  | nil =>
    have htold : tellQueued .memory n x = x := by simp only [tellQueued, memoryQueued, hr]
    rw [htold]
    exact ⟨⟨_, _, _, rfl, fun _ h => h⟩, by simp, fun _ => .inl hr, by simp, by simp, by simp⟩
  | cons r more =>
    cases more with
    | nil =>
      have htold : tellQueued .memory n x
          = resolvedNotice r (some n) (x.setMemory { x.memory with resolutions := [] }) := by
        simp only [tellQueued, memoryQueued, hr]
        rfl
      rw [htold]
      exact ⟨⟨_, _, _, rfl, fun _ h => h⟩, by simp, fun _ => .inl rfl, by simp, by simp, fun _ => rfl⟩
    | cons r' more =>
      have htold : tellQueued .memory n x
          = joinWaiting .memory (resolvedNotice r (some n) (x.setMemory { x.memory with resolutions := r' :: more })) := by
        simp only [tellQueued, memoryQueued, hr]
        rfl
      obtain ⟨waiting, hjoin, hkeeps, hmem⟩ := joinWaiting_journal .memory
        (resolvedNotice r (some n) (x.setMemory { x.memory with resolutions := r' :: more }))
      rw [htold, hjoin]
      exact ⟨⟨_, _, _, rfl, hkeeps⟩, by simp, fun _ => .inr hmem, by simp, by simp, fun _ => rfl⟩

theorem queuedTold_control (n : Nat) (x : State) : QueuedTold .control x (tellQueued .control n x) := by
  cases hc : x.journal.control with
  | none =>
    have htold : tellQueued .control n x = x := by simp only [tellQueued, hc]
    rw [htold]
    exact ⟨⟨_, _, _, rfl, fun _ h => h⟩, fun _ => hc, by simp, by simp, by simp, by simp⟩
  | some item =>
    rw [controlTold_of_item hc]
    cases item <;>
      exact ⟨⟨_, _, _, rfl, fun _ h => h⟩, fun _ => rfl, by simp, by simp, by simp, fun _ => rfl⟩

theorem queuedTold (p : Producer) (n : Nat) (x : State) : QueuedTold p x (tellQueued p n x) := by
  cases p with
  | evaluator => exact queuedTold_evaluator n x
  | position => exact queuedTold_position n x
  | tables => exact queuedTold_tables n x
  | memory => exact queuedTold_memory n x
  | control => exact queuedTold_control n x

section
variable {s x y u : State} {p : Producer}

/-- A producer that is told, queued or dropped, has emptied its place. -/
theorem position_emptied (hq : QueuedTold p x y) (hu : ExhaustedAfter y u)
    (h : p = .position ∨ .position ∈ x.journal.waiting) : u.position.outgoing = none := by
  obtain ⟨mode, control, waiting, hj, hkeeps⟩ := hq.journal
  rw [hu.position]
  by_cases hw : Producer.position ∈ y.journal.waiting
  · rw [if_pos hw]
  · rw [if_neg hw]
    refine hq.position (h.resolve_right fun hx => hw ?_)
    rw [hj]
    exact hkeeps _ hx

theorem tables_emptied (hq : QueuedTold p x y) (hu : ExhaustedAfter y u)
    (h : p = .tables ∨ .tables ∈ x.journal.waiting) : u.tables.outgoing = none := by
  obtain ⟨mode, control, waiting, hj, hkeeps⟩ := hq.journal
  rw [hu.tables]
  by_cases hw : Producer.tables ∈ y.journal.waiting
  · rw [if_pos hw]
  · rw [if_neg hw]
    refine hq.tables (h.resolve_right fun hx => hw ?_)
    rw [hj]
    exact hkeeps _ hx

theorem resolutions_emptied (hq : QueuedTold p x y) (hu : ExhaustedAfter y u)
    (h : p = .memory ∨ .memory ∈ x.journal.waiting) : u.memory.resolutions = [] := by
  obtain ⟨mode, control, waiting, hj, hkeeps⟩ := hq.journal
  rw [hu.memory]
  by_cases hw : Producer.memory ∈ y.journal.waiting
  · rw [if_pos hw]
  · rw [if_neg hw]
    have hp : p = .memory := h.resolve_right fun hx => hw (by rw [hj]; exact hkeeps _ hx)
    exact (hq.memory hp).resolve_right hw

theorem control_emptied (hq : QueuedTold p x y) (hu : ExhaustedAfter y u)
    (h : p = .control ∨ .control ∈ x.journal.waiting) : u.journal.control = none := by
  obtain ⟨mode, control, waiting, hj, hkeeps⟩ := hq.journal
  rw [hu.journal]
  by_cases hw : Producer.control ∈ y.journal.waiting
  · exact if_pos hw
  · refine (if_neg hw).trans (hq.control (h.resolve_right fun hx => hw ?_))
    rw [hj]
    exact hkeeps _ hx

/-- R131: the last number given to the head producer, and the producers that still wait told that theirs are dropped. -/
theorem lastEntryTakesThePlace {rest : List Producer} {d : Draft} (hn : s.journal.nextSeq = 4294967295) :
    ∃ u : State, (Host.Outcome.next (settle (exhaust (tellQueued p s.journal.nextSeq
        ((s.served rest).entered (d.run.getD s.position.run) d.body)))) : Host.Outcome State Fault Refusal)
        = .next (settle (u.noticed
          (.journalFull .exhausted 0 s.journal.headSector s.journal.mark s.journal.highest s.journal.highestAhead)))
      ∧ u.journal.full = some .exhausted ∧ u.journal.waiting = [] ∧ u.journal.nextSeq = 4294967296
      ∧ u.journal.queue = s.journal.queue
          ++ [{ seq := 4294967295, time := s.position.clock, run := d.run.getD s.position.run, body := d.body }]
      ∧ u.journal.slots = s.journal.slots ∧ u.journal.mark = s.journal.mark
      ∧ (∀ c v, p = .evaluator → s.evaluator = .awaiting c v .place →
        u.evaluator = .awaiting c { v with seq := some 4294967295 } (.queued 4294967295))
      ∧ (∀ c v, p ≠ .evaluator → .evaluator ∈ rest → s.evaluator = .awaiting c v .place →
        u.evaluator = toldDropped c v)
      ∧ (p = .position ∨ .position ∈ rest → u.position.outgoing = none)
      ∧ (p = .tables ∨ .tables ∈ rest → u.tables.outgoing = none)
      ∧ (p = .memory ∨ .memory ∈ rest → u.memory.resolutions = [])
      ∧ (p = .control ∨ .control ∈ rest → u.journal.control = none) := by
  have hq := queuedTold p s.journal.nextSeq ((s.served rest).entered (d.run.getD s.position.run) d.body)
  obtain ⟨u, hu, hparts⟩ := exhaust_parts (tellQueued p s.journal.nextSeq
    ((s.served rest).entered (d.run.getD s.position.run) d.body))
  obtain ⟨mode, control, waiting, hj, hkeeps⟩ := hq.journal
  refine ⟨u, ?_, ?_, ?_, ?_, ?_, ?_, ?_, fun c v hp he => ?_, fun c v hp hmem he => ?_, fun h => position_emptied hq hparts h,
    fun h => tables_emptied hq hparts h, fun h => resolutions_emptied hq hparts h, fun h => control_emptied hq hparts h⟩
  · rw [hu, hj]
    rfl
  · rw [hparts.journal]
  · rw [hparts.journal]
  · rw [hparts.journal, hj]
    show s.journal.nextSeq + 1 = _
    rw [hn]
  · rw [hparts.journal, hj, ← hn]
    rfl
  · rw [hparts.journal, hj]
    rfl
  · rw [hparts.journal, hj]
    rfl
  · subst hp
    rw [hparts.evaluator, evaluatorQueued_of_place (by exact he), hn]
    split <;> rfl
  · have hin : Producer.evaluator ∈ (tellQueued p s.journal.nextSeq
        ((s.served rest).entered (d.run.getD s.position.run) d.body)).journal.waiting := by
      rw [hj]
      exact hkeeps _ hmem
    rw [hparts.evaluator, if_pos hin, hq.evaluator hp]
    show s.evaluator.placeDropped = _
    rw [he]
    rfl

end

/-- Settles O46: each producer told of its entry queued, and what the last number leaves of every place. -/
theorem waitingEntryTakesThePlace : Obligations.WaitingEntryTakesThePlace := by
  rintro p rest s m hpow hw hroom htakes hfull rfl
  have hexec : exec .waitingEntryQueued s = .next (settle (queueWaiting s)) :=
    act_occurs queueWaiting hpow (placeForWaiting_of hw hroom htakes hfull)
  rw [hexec]
  refine ⟨fun hn => ⟨fun c v hp he => ?_, fun o hp ho => ?_, fun generation epochDay previous hp => ⟨fun ho => ?_, fun ho => ?_⟩,
    fun r more hp hr hnot => ?_, fun item w hp hc hw' => ?_⟩, fun d hn hd => ?_⟩
  · subst hp
    rw [queueWaiting_of_number hw (d := verdictDraft c v) (by simp only [draftOf, he]; rfl) hn,
      evaluatorQueued_of_place (by exact he)]
    rfl
  · subst hp
    rw [queueWaiting_of_number hw (d := { body := o.body, run := none }) (by simp [draftOf, ho]) hn,
      positionTold_of_outgoing (by exact ho)]
    rfl
  · subst hp
    rw [queueWaiting_of_number hw (d := { body := .commit generation epochDay previous .scheduled, run := none })
      (by simp [draftOf, ho]) hn, tablesTold_of_scheduled (by exact ho)]
    rfl
  · subst hp
    rw [queueWaiting_of_number hw (d := { body := .commit generation epochDay previous .immediate, run := none })
      (by simp [draftOf, ho]) hn, tablesTold_of_immediate (by exact ho)]
    rfl
  · subst hp
    rw [queueWaiting_of_number hw (d := { body := .consume r.tag r.key r.outcome, run := some r.run })
      (by simp [draftOf, hr]) hn, memoryQueued_of_cons (by exact hr) (by exact hnot)]
    rfl
  · subst hp hw'
    rw [queueWaiting_of_number hw (d := { body := item.body, run := none }) (by simp [draftOf, hc]) hn,
      controlTold_of_item (by exact hc)]
    refine ⟨?_, ?_, ?_, ?_⟩
    · rintro bytes rfl
      rfl
    · rintro value clamped rfl
      cases clamped <;> rfl
    · rintro cause generation rfl
      rfl
    · rintro rfl
      rfl
  · rw [queueWaiting_of_last hw hd hn]
    exact lastEntryTakesThePlace hn

end Sys2Proof.Machine
end

section
/-! SUPPORT. What start-up recovery finds in the ring (R35, R144, R145, R146). -/

namespace Sys2Proof.Machine

/-! ## The greatest and the least -/

theorem foldl_max_spec (l : List Nat) : ∀ a, a ≤ l.foldl max a ∧ (∀ n ∈ l, n ≤ l.foldl max a)
    ∧ (l.foldl max a = a ∨ l.foldl max a ∈ l) := by
  induction l with
  | nil => exact fun a => ⟨Nat.le_refl a, by simp, .inl rfl⟩
  | cons n rest ih =>
    intro a
    obtain ⟨hle, hall, hmem⟩ := ih (max a n)
    refine ⟨(Nat.le_max_left a n).trans hle, fun m hm => ?_, ?_⟩
    · rcases List.mem_cons.mp hm with rfl | hm
      · exact (Nat.le_max_right a m).trans hle
      · exact hall m hm
    · rw [List.foldl_cons]
      rcases hmem with hmem | hmem
      · rcases Nat.le_total a n with h | h
        · exact .inr (by rw [hmem, Nat.max_eq_right h]; exact List.mem_cons_self)
        · exact .inl (hmem.trans (Nat.max_eq_left h))
      · exact .inr (List.mem_cons_of_mem _ hmem)

theorem le_greatest {l : List Nat} {n : Nat} (h : n ∈ l) : n ≤ greatest l := (foldl_max_spec l 0).2.1 n h

theorem greatest_mem {l : List Nat} (h : 0 < greatest l) : greatest l ∈ l :=
  (foldl_max_spec l 0).2.2.resolve_left (Nat.ne_of_gt h)

theorem foldl_min_spec (l : List Nat) : ∀ a, l.foldl min a ≤ a ∧ (∀ n ∈ l, l.foldl min a ≤ n)
    ∧ (l.foldl min a = a ∨ l.foldl min a ∈ l) := by
  induction l with
  | nil => exact fun a => ⟨Nat.le_refl a, by simp, .inl rfl⟩
  | cons n rest ih =>
    intro a
    obtain ⟨hle, hall, hmem⟩ := ih (min a n)
    refine ⟨hle.trans (Nat.min_le_left a n), fun m hm => ?_, ?_⟩
    · rcases List.mem_cons.mp hm with rfl | hm
      · exact hle.trans (Nat.min_le_right a m)
      · exact hall m hm
    · rw [List.foldl_cons]
      rcases hmem with hmem | hmem
      · rcases Nat.le_total a n with h | h
        · exact .inl (hmem.trans (Nat.min_eq_left h))
        · exact .inr (by rw [hmem, Nat.min_eq_right h]; exact List.mem_cons_self)
      · exact .inr (List.mem_cons_of_mem _ hmem)

theorem least_le {l : List Nat} {n : Nat} (h : n ∈ l) : least l ≤ n := by
  cases l with
  | nil => cases h
  | cons a rest =>
    obtain ⟨hle, hall, -⟩ := foldl_min_spec rest a
    rcases List.mem_cons.mp h with rfl | h
    · exact hle
    · exact hall n h

theorem least_mem {l : List Nat} (h : l ≠ []) : least l ∈ l := by
  cases l with
  | nil => exact absurd rfl h
  | cons a rest =>
    rcases (foldl_min_spec rest a).2.2 with hmem | hmem
    · show rest.foldl min a ∈ a :: rest
      rw [hmem]
      exact List.mem_cons_self
    · exact List.mem_cons_of_mem _ hmem

/-- The entry with the higher number of a best one so far and another. -/
def betterEntry (best : Option (Nat × Entry)) (x : Nat × Entry) : Option (Nat × Entry) :=
  match best with
  | none => some x
  | some b => if b.2.seq < x.2.seq then some x else some b

theorem highestEntry_eq (l : List (Nat × Entry)) : highestEntry l = l.foldl betterEntry none := rfl

theorem foldl_betterEntry (l : List (Nat × Entry)) : ∀ b, ∃ x, l.foldl betterEntry (some b) = some x
    ∧ (x = b ∨ x ∈ l) ∧ b.2.seq ≤ x.2.seq ∧ ∀ y ∈ l, y.2.seq ≤ x.2.seq := by
  induction l with
  | nil => exact fun b => ⟨b, rfl, .inl rfl, Nat.le_refl _, by simp⟩
  | cons a rest ih =>
    intro b
    by_cases h : b.2.seq < a.2.seq
    · obtain ⟨x, hx, hmem, hle, hall⟩ := ih a
      refine ⟨x, by simpa [betterEntry, h] using hx, ?_, by omega, fun y hy => ?_⟩
      · rcases hmem with rfl | hmem
        · exact .inr List.mem_cons_self
        · exact .inr (List.mem_cons_of_mem _ hmem)
      · rcases List.mem_cons.mp hy with rfl | hy
        · exact hle
        · exact hall y hy
    · obtain ⟨x, hx, hmem, hle, hall⟩ := ih b
      refine ⟨x, by simpa [betterEntry, h] using hx, hmem.imp_right (List.mem_cons_of_mem _), hle, fun y hy => ?_⟩
      rcases List.mem_cons.mp hy with rfl | hy
      · omega
      · exact hall y hy

/-- The entry with the highest number of a list that has one. -/
theorem highestEntry_of_ne_nil {l : List (Nat × Entry)} (h : l ≠ []) :
    ∃ x ∈ l, highestEntry l = some x ∧ ∀ y ∈ l, y.2.seq ≤ x.2.seq := by
  cases l with
  | nil => exact absurd rfl h
  | cons a rest =>
    obtain ⟨x, hx, hmem, hle, hall⟩ := foldl_betterEntry rest a
    refine ⟨x, ?_, (highestEntry_eq (a :: rest)).trans hx, fun y hy => ?_⟩
    · rcases hmem with rfl | hmem
      · exact List.mem_cons_self
      · exact List.mem_cons_of_mem _ hmem
    · rcases List.mem_cons.mp hy with rfl | hy
      · exact hle
      · exact hall y hy

/-! ## The recovered values (R35, R146) -/

section
variable {complete : List (Nat × Entry)}

theorem recoveredMark_spec (h : complete ≠ []) : ∃ o ∈ complete, (∀ y ∈ complete, o.2.seq ≤ y.2.seq)
    ∧ o.2.seq - 1 ≤ recoveredMark (complete.map Prod.snd)
    ∧ (∀ y ∈ complete, ∀ v, y.2.body = .mark v → v ≤ recoveredMark (complete.map Prod.snd))
    ∧ (recoveredMark (complete.map Prod.snd) = o.2.seq - 1
      ∨ ∃ y ∈ complete, y.2.body = .mark (recoveredMark (complete.map Prod.snd))) := by
  have hmarks : (complete.map Prod.snd).map markValue = complete.map fun x => markValue x.2 := by simp
  have hseqs : (complete.map Prod.snd).map Entry.seq = complete.map fun x => x.2.seq := by simp
  have hmark : recoveredMark (complete.map Prod.snd)
      = max (greatest (complete.map fun x => markValue x.2)) (least (complete.map fun x => x.2.seq) - 1) := by
    rw [recoveredMark, hmarks, hseqs]
  obtain ⟨o, ho, hleast⟩ := List.mem_map.mp (least_mem (l := complete.map fun x => x.2.seq) (by simpa using h))
  rw [hmark, ← hleast]
  refine ⟨o, ho, fun y hy => ?_, Nat.le_max_right _ _, fun y hy v hv => ?_, ?_⟩
  · rw [hleast]
    exact least_le (List.mem_map.mpr ⟨y, hy, rfl⟩)
  · refine (le_greatest (List.mem_map.mpr ⟨y, hy, ?_⟩)).trans (Nat.le_max_left _ _)
    simp [markValue, hv]
  · by_cases hbig : greatest (complete.map fun x => markValue x.2) ≤ o.2.seq - 1
    · exact .inl (Nat.max_eq_right hbig)
    · rw [Nat.max_eq_left (by omega)]
      obtain ⟨y, hy, hv⟩ := List.mem_map.mp (greatest_mem (l := complete.map fun x => markValue x.2) (by omega))
      refine .inr ⟨y, hy, ?_⟩
      have hpos : 0 < markValue y.2 := by omega
      rw [← hv]
      revert hpos
      unfold markValue
      split
      next v hb => exact fun _ => hb
      next => exact fun h => absurd h (Nat.lt_irrefl 0)

theorem recoveredRun_none (h : ∀ x ∈ complete, x.2.body ≠ .runStart) : recoveredRun complete = 0 := by
  have hnone : complete.filter (fun x => x.2.body == .runStart) = [] :=
    List.filter_eq_nil_iff.mpr fun x hx => by simpa using h x hx
  rw [recoveredRun, hnone]
  rfl

theorem recoveredRun_some (h : ∃ x ∈ complete, x.2.body = .runStart) : ∃ x ∈ complete, x.2.body = .runStart
    ∧ recoveredRun complete = x.2.run ∧ ∀ y ∈ complete, y.2.body = .runStart → y.2.seq ≤ x.2.seq := by
  obtain ⟨z, hz, hzb⟩ := h
  have hne : complete.filter (fun x => x.2.body == .runStart) ≠ [] :=
    List.ne_nil_of_mem (List.mem_filter.mpr ⟨hz, by simp [hzb]⟩)
  obtain ⟨x, hx, htop, hall⟩ := highestEntry_of_ne_nil hne
  obtain ⟨hxc, hxb⟩ := List.mem_filter.mp hx
  refine ⟨x, hxc, by simpa using hxb, by rw [recoveredRun, htop]; rfl, fun y hy hyb => ?_⟩
  exact hall y (List.mem_filter.mpr ⟨hy, by simp [hyb]⟩)

end

/-! ## Damaged sectors (R144) -/

theorem partsFrom_iff (slots : List (Nat × JSlot)) (base : Nat) (e : Entry) (n : Nat) :
    partsFrom slots base e n = true ↔ ∀ i < n, lookupAt slots (base + i) = some (.part e i) := by
  induction n with
  | zero => simp [partsFrom]
  | succ n ih =>
    simp only [partsFrom, Bool.and_eq_true, beq_iff_eq, ih]
    constructor
    · rintro ⟨hlast, hrest⟩ i hi
      rcases Nat.lt_succ_iff_lt_or_eq.mp hi with hi | rfl
      · exact hrest i hi
      · exact hlast
    · exact fun h => ⟨h n (Nat.lt_succ_self n), fun i hi => h i (Nat.lt_succ_of_lt hi)⟩

theorem completeAt_iff (slots : List (Nat × JSlot)) (base : Nat) (e : Entry) : completeAt slots base e = true
    ↔ ∀ i < entrySlots e.body, lookupAt slots (base + i) = some (.part e i) := partsFrom_iff slots base e _

section
variable {slots : List (Nat × JSlot)}

/-- In a ring with rising slots, a slot programmed is the slot looked up. -/
theorem lookupAt_eq_some_iff (h : risingKeys slots = true) (a : Nat) (v : JSlot) :
    lookupAt slots a = some v ↔ (a, v) ∈ slots := by
  induction slots with
  | nil => simp [lookupAt]
  | cons b rest ih =>
    obtain ⟨k, w⟩ := b
    obtain ⟨hb, hr⟩ := (risingKeys_cons (k, w) rest).1 h
    by_cases hk : k = a
    · subst hk
      have hnot : (k, v) ∉ rest := fun hm => Nat.lt_irrefl k (hb _ hm)
      simp [lookupAt, hnot, eq_comm]
    · simp [lookupAt, hk, Ne.symm hk, ih hr]

theorem mem_completeEntries (h : risingKeys slots = true) (x : Nat × Entry) :
    x ∈ completeEntries slots ↔ completeAt slots x.1 x.2 = true := by
  obtain ⟨a, e⟩ := x
  constructor
  · intro hx
    obtain ⟨⟨k, v⟩, hk, hv⟩ := List.mem_filterMap.mp hx
    dsimp only at hv
    split at hv
    · split at hv
      next hc =>
        cases hv
        exact hc
      next => cases hv
    · cases hv
  · intro hc
    have hfirst := (completeAt_iff slots a e).mp hc 0 (entrySlots_pos e.body)
    exact List.mem_filterMap.mpr ⟨(a, .part e 0), (lookupAt_eq_some_iff h a _).mp hfirst, by simp [hc]⟩

/-- R144: a slot that is neither erased nor of a complete entry. -/
theorem brokenSlot_iff (h : risingKeys slots = true) {x : Nat × JSlot} (hx : x ∈ slots) :
    brokenSlot slots x = true ↔ neitherState slots x.1 := by
  obtain ⟨a, v⟩ := x
  have hlook : lookupAt slots a = some v := (lookupAt_eq_some_iff h a v).mpr hx
  have hcover : ∀ y ∈ completeEntries slots, y.1 ≤ a → a < y.1 + entrySlots y.2.body → v = .part y.2 (a - y.1) := by
    intro y hy hlow hhigh
    have hpart := (completeAt_iff slots y.1 y.2).mp ((mem_completeEntries h y).mp hy) (a - y.1) (by omega)
    rw [show y.1 + (a - y.1) = a by omega, hlook] at hpart
    exact Option.some.inj hpart
  cases v with
  | torn =>
    refine ⟨fun _ => ⟨⟨_, hlook⟩, fun y hy => ?_⟩, fun _ => rfl⟩
    by_contra hnot
    exact absurd (hcover y hy (by omega) (by omega)) (by simp)
  | part e i =>
    have hbroken : brokenSlot slots (a, .part e i) = true
        ↔ ¬(i ≤ a ∧ i < entrySlots e.body ∧ completeAt slots (a - i) e = true) := by
      simp only [brokenSlot, Bool.or_eq_true, decide_eq_true_eq, Bool.not_eq_true']
      by_cases hc : completeAt slots (a - i) e = true
      · simp only [hc]; simp; omega
      · simp [hc]
    rw [hbroken]
    constructor
    · refine fun hb => ⟨⟨_, hlook⟩, fun y hy => ?_⟩
      by_contra hnot
      have heq := hcover y hy (by omega) (by omega)
      cases heq
      refine hb ⟨by omega, by omega, ?_⟩
      rw [show a - (a - y.1) = y.1 by omega]
      exact (mem_completeEntries h y).mp hy
    · rintro ⟨-, hout⟩ ⟨hia, hi, hc⟩
      have := hout (a - i, e) ((mem_completeEntries h _).mpr hc)
      simp only at this
      omega

theorem damaged_iff (h : risingKeys slots = true) (head : Option Nat) (k : Nat) : damaged slots head k = true
    ↔ head ≠ some k ∧ ∃ a, a / 64 = k ∧ neitherState slots a := by
  simp only [damaged, Bool.and_eq_true, decide_eq_true_eq, List.any_eq_true, sectorSlots, List.mem_filter, sectorOf,
    slotsPerSector, beq_iff_eq]
  refine and_congr_right fun _ => ⟨?_, ?_⟩
  · rintro ⟨x, ⟨hx, hk⟩, hb⟩
    exact ⟨x.1, hk, (brokenSlot_iff h hx).mp hb⟩
  · rintro ⟨a, hk, hn⟩
    obtain ⟨⟨v, hv⟩, -⟩ := id hn
    have hx := (lookupAt_eq_some_iff h a v).mp hv
    exact ⟨(a, v), ⟨hx, hk⟩, (brokenSlot_iff h hx).mpr hn⟩

theorem takenOff_iff_complete (mark k : Nat) :
    takenOff slots mark k = true ↔ ∀ x ∈ completeEntries slots, x.1 / 64 = k → x.2.seq ≤ mark := by
  rw [takenOff_iff]
  constructor
  · intro hall x hx hk
    exact hall x.2 (List.mem_map.mpr ⟨x, List.mem_filter.mpr ⟨hx, beq_iff_eq.mpr hk⟩, rfl⟩)
  · intro hall f hf
    obtain ⟨x, hx, rfl⟩ := List.mem_map.mp hf
    obtain ⟨hx, hk⟩ := List.mem_filter.mp hx
    exact hall x hx (beq_iff_eq.mp hk)

end

/-- R144 to R146: what the reading of the ring finds. -/
theorem recoveryOf_found (slots : List (Nat × JSlot)) : recoveryFound slots (recoveryOf slots) := by
  refine ⟨fun hnil => ?none, fun hne => ⟨?top, recoveredMark_spec hne⟩, recoveredRun_none, recoveredRun_some,
    fun hrising k => ?erase, List.Pairwise.filter _ List.pairwise_lt_range, rfl⟩
  case none =>
    simp only [recoveryOf, hnil]
    exact ⟨rfl, rfl, rfl, rfl, rfl⟩
  case top =>
    obtain ⟨x, hx, htop, hall⟩ := highestEntry_of_ne_nil hne
    refine ⟨x, hx, ?_, ?_, ?_, hall⟩
    · simp only [recoveryOf, htop]
      rfl
    · simp only [recoveryOf, htop]
      rfl
    · simp [recoveryOf, htop]
  case erase =>
    have hhead : (highestEntry (completeEntries slots)).map (fun x => sectorOf x.1) ≠ some k
        ↔ (completeEntries slots ≠ [] → k ≠ (recoveryOf slots).headSector) := by
      by_cases hnil : completeEntries slots = []
      · simp [hnil, highestEntry]
      · obtain ⟨x, -, htop, -⟩ := highestEntry_of_ne_nil hnil
        simp [recoveryOf, htop, hnil, eq_comm]
    have herase : (recoveryOf slots).toErase = (List.range 64).filter fun k =>
        damaged slots ((highestEntry (completeEntries slots)).map fun x => sectorOf x.1) k
          && takenOff slots (recoveryOf slots).mark k := rfl
    rw [herase, List.mem_filter, List.mem_range, Bool.and_eq_true, damaged_iff hrising, takenOff_iff_complete, hhead,
      and_assoc]

end Sys2Proof.Machine
end

section
/-! SUPPORT. Recovery's erases, and the Journal opened with its STARTED entry (R145, R146). -/

namespace Sys2Proof.Machine

section
variable {s : State} {r : Recovery}

theorem nextRecoveryErase_of {k : Nat} {more : List Nat} (hmode : s.journal.mode = .recovering)
    (hr : s.journal.recovery = some r) (he : r.toErase = k :: more) (hop : s.journal.op = none) :
    nextRecoveryErase s.journal = some k := by
  simp [nextRecoveryErase, hmode, hop, hr, he]

theorem nextRecoveryErase_held (hop : s.journal.op ≠ none) : nextRecoveryErase s.journal = none := by
  simp [nextRecoveryErase, hop]

/-- R145, R146: recovery is complete when no damaged sector is left and nothing is in flight. -/
theorem recoveryComplete_of (hmode : s.journal.mode = .recovering) (hr : s.journal.recovery = some r)
    (he : r.toErase = []) (hop : s.journal.op = none) : recoveryComplete s.journal = true := by
  simp [recoveryComplete, hmode, hr, he, hop]

theorem recoveryComplete_not {k : Nat} {more : List Nat} (hr : s.journal.recovery = some r)
    (he : r.toErase = k :: more) : recoveryComplete s.journal = false := by
  simp [recoveryComplete, hr, he]

/-- R35, R146: the Journal OPEN with the recovered values, before its STARTED entry is offered. -/
def State.reopened (s : State) (r : Recovery) : State :=
  (s.setPosition { s.position with run := r.run }).setJournal
    { recovered s.journal r s.tables.activeGeneration with control := none }

/-- The STARTED entry in the control place. -/
def startedItem (s : State) (r : Recovery) : ControlItem :=
  .started (startCause s.journal.warm r.closedLast) s.tables.activeGeneration

/-- Recovery's findings given up. -/
def State.recoveryOver (w : State) : State := w.setJournal { w.journal with recovery := none }

theorem finishRecovery_eq (hr : s.journal.recovery = some r) : finishRecovery s = offerWaitingResolutions
    (exhaustedAtStart r (offer .control ((s.reopened r).withControl (startedItem s r)))).recoveryOver := by
  simp only [finishRecovery, hr]
  rfl

theorem exhaustedAtStart_not {w : State} (h : recoveredNext r.highest ≤ 4294967295) : exhaustedAtStart r w = w :=
  if_neg (Nat.not_lt.mpr h)

theorem exhaustedAtStart_full {w : State} (h : 4294967295 < recoveredNext r.highest) :
    exhaustedAtStart r w = fullNotice .exhausted 0 w := if_pos h

theorem offerWaitingResolutions_none {w : State} (h : w.memory.resolutions = []) : offerWaitingResolutions w = w :=
  if_pos (by simp [h])

theorem offerWaitingResolutions_some {w : State} (h : w.memory.resolutions ≠ []) :
    offerWaitingResolutions w = offer .memory w := if_neg (by simpa using h)

/-- R146: the next number after recovery, when one is left. -/
theorem recoveredNext_of_le {next : Nat} {highest : Option Nat}
    (hn : next = (match highest with | none => 1 | some h => h + 17)) (h : next ≤ 4294967295) :
    recoveredNext highest = next := by
  subst hn
  cases highest with
  | none => rfl
  | some k => exact Nat.min_eq_left (Nat.le_succ_of_le h)

theorem recoveredNext_of_lt {next : Nat} {highest : Option Nat}
    (hn : next = (match highest with | none => 1 | some h => h + 17)) (h : 4294967295 < next) :
    recoveredNext highest = 4294967296 := by
  subst hn
  cases highest with
  | none => exact absurd h (by simp)
  | some k => exact Nat.min_eq_right h

/-- R146: the Journal reopened with numbers left. -/
theorem reopened_of_number {next : Nat} (hn : recoveredNext r.highest = next) (hle : next ≤ 4294967295) :
    s.reopened r =
      { s with
        position := { s.position with run := r.run }
        journal :=
          { s.journal with
            mode := .opened, full := none, headSector := r.headSector, headSlot := slotAfter s.journal.slots r.headSector
            nextSeq := next, mark := max r.mark (s.journal.oldest - 1), control := none } } := by
  have hfull : (if lastSequence < recoveredNext r.highest then some FullCause.exhausted else none) = none :=
    if_neg (by rw [hn]; exact Nat.not_lt.mpr hle)
  rw [State.reopened, recovered, hfull, hn]
  rfl

/-- R146: the Journal reopened with no number left. -/
theorem reopened_of_none_left (hn : recoveredNext r.highest = 4294967296) :
    s.reopened r =
      { s with
        position := { s.position with run := r.run }
        journal :=
          { s.journal with
            mode := .opened, full := some .exhausted, headSector := r.headSector
            headSlot := slotAfter s.journal.slots r.headSector
            nextSeq := 4294967296, mark := max r.mark (s.journal.oldest - 1), control := none } } := by
  have hfull : (if lastSequence < recoveredNext r.highest then some FullCause.exhausted else none) = some .exhausted :=
    if_pos (by rw [hn]; decide)
  rw [State.reopened, recovered, hfull, hn]
  rfl

/-- The STARTED notice of a recovery (R146). -/
def startedBody (s : State) (r : Recovery) (seq : Option Nat) : NoticeBody :=
  .started (startCause s.journal.warm r.closedLast) seq s.tables.activeIndex s.tables.activeGeneration
    s.tables.activeEpochDay r.headSector (slotAfter s.journal.slots r.headSector) (max r.mark (s.journal.oldest - 1))
    s.journal.highest s.journal.oldest s.journal.recoveryErased s.supplyLow

/-- R146: the STARTED entry queued and its notice placed, recovery's findings still held. -/
def State.started (s : State) (r : Recovery) (next : Nat) : State :=
  State.noticed
    { s with
      position := { s.position with run := r.run }
      journal :=
        { s.journal with
          mode := .opened, full := none, headSector := r.headSector, headSlot := slotAfter s.journal.slots r.headSector
          nextSeq := next + 1, mark := max r.mark (s.journal.oldest - 1), control := none
          queue := s.journal.queue
            ++ [{ seq := next, time := s.position.clock, run := r.run, body := (startedItem s r).body }] } }
    (startedBody s r (some next))

section
variable {next : Nat}

theorem offer_started_queued (hn : recoveredNext r.highest = next) (hlt : next < 4294967295)
    (hq : s.journal.queue = []) (hw : s.journal.waiting = []) :
    offer .control ((s.reopened r).withControl (startedItem s r)) = s.started r next := by
  rw [reopened_of_number hn (Nat.le_of_lt hlt)]
  rw [offer_control_placeFree (by exact ⟨rfl, .inl rfl, by simp [hq], hw, hlt⟩)]
  rfl

theorem offer_started_last (hn : recoveredNext r.highest = 4294967295) (hq : s.journal.queue = [])
    (hw : s.journal.waiting = []) :
    offer .control ((s.reopened r).withControl (startedItem s r)) = (s.started r 4294967295).exhausted := by
  rw [reopened_of_number hn (Nat.le_refl _)]
  rw [offer_control_lastPlace (by exact ⟨rfl, .inl rfl, by simp [hq], hw, rfl⟩), exhaust_of_nobody_waiting (by exact hw)]
  rfl

theorem offer_started_dropped (hn : recoveredNext r.highest = 4294967296) :
    offer .control ((s.reopened r).withControl (startedItem s r))
      = (s.reopened r).noticed (startedBody s r none) := by
  rw [reopened_of_none_left hn, offer_control_dropsEntries (by exact .inl (by simp))]
  rfl

end

theorem recoveryErased_of (hr : s.journal.recovery = some r) : s.journal.recoveryErased = r.erased := by
  simp [Journal.recoveryErased, hr]

end

/-- R124, R132: a resolution offered with nobody waiting takes the next number. -/
theorem offer_first_resolution {x : State} {o : Resolution} {more : List Resolution} {next : Nat}
    (hres : x.memory.resolutions = o :: more) (hfree : x.placeFree) (hn : x.journal.nextSeq = next) :
    offer .memory x =
      { (x.entered o.run (.consume o.tag o.key o.outcome)).noticed
          (.consumeResolved o.tag o.key o.outcome (tripOf x.memory.slots o.key) (some next)) with
        memory := { x.memory with resolutions := more }
        journal :=
          { (x.entered o.run (.consume o.tag o.key o.outcome)).journal with
            waiting := if more = [] then [] else [.memory] } } := by
  have hwait : x.journal.waiting = [] := hfree.2.2.2.1
  have htold := memoryQueued_of_cons (n := x.journal.nextSeq)
    (x := x.entered o.run (.consume o.tag o.key o.outcome)) hres (by
      show Producer.memory ∉ x.journal.waiting
      simp [hwait])
  rw [offer_of_placeFree (d := { body := .consume o.tag o.key o.outcome, run := some o.run }) (by simp [draftOf, hres])
    hfree]
  refine htold.trans ?_
  have hnobody : (x.entered o.run (.consume o.tag o.key o.outcome)).journal.waiting = [] := hwait
  rw [hnobody, hn]
  rfl

/-- Settles O53: the reading, the erases one at a time, and the Journal opened with its STARTED entry. -/
theorem recoveryOpensTheJournal : Obligations.RecoveryOpensTheJournal := by
  refine fun s hpow hmode => ⟨fun hnone => ?read, fun r k more hr he => ?erase, ?opens⟩
  case read =>
    refine ⟨recoveryOf s.journal.slots, ?_, recoveryOf_found s.journal.slots⟩
    exact act_occurs (fun s => s.setJournal { s.journal with recovery := some (recoveryOf s.journal.slots) }) hpow
      (by simp [hmode, hnone])
  case erase =>
    refine ⟨fun hop hsafe => ?_, fun hheld => ?_, act_idle finishRecovery (recoveryComplete_not hr he)⟩
    · have hnext := nextRecoveryErase_of hmode hr he hop
      have hexec : exec .recoveryErase s = .next (settle (startRecoveryErase s)) :=
        act_occurs startRecoveryErase hpow (by simp [hnext, State.safe, hsafe])
      rw [hexec, startRecoveryErase, hnext]
      rfl
    · refine act_idle startRecoveryErase ?_
      rcases hheld with hop | hsafe
      · simp [nextRecoveryErase_held hop]
      · simp [State.safe, hsafe]
  case opens =>
    rintro r _ next _ _ m x hr he hop hnext rfl rfl rfl hm hx
    have hexec : exec .startedEntry s = .next (settle (finishRecovery s)) :=
      act_occurs finishRecovery hpow (recoveryComplete_of hmode hr he hop)
    rw [hexec, finishRecovery_eq hr]
    refine ⟨fun hq hw => ?_, fun hlt hres => ?_⟩
    · have hover : (s.started r next).recoveryOver = x := by
        rw [hx, hm, State.started, startedBody, hq, recoveryErased_of hr]
        rfl
      refine ⟨fun hlt hres => ?_, fun o more hlt hres => ?_, fun hlast hres => ?_⟩
      · have hn := recoveredNext_of_le hnext (Nat.le_of_lt hlt)
        rw [offer_started_queued hn hlt hq hw, exhaustedAtStart_not (by omega),
          offerWaitingResolutions_none (by exact hres), hover]
      · have hn := recoveredNext_of_le hnext (by omega)
        have hmem : x.memory = s.memory := by
          rw [hx, hm]
          rfl
        have hmore : x.memory.resolutions = o :: more := by
          rw [hmem]
          exact hres
        have hfree : x.placeFree := by
          rw [hx, hm]
          exact ⟨rfl, .inl rfl, by simp [State.noticed], hw, hlt⟩
        have hnumber : x.journal.nextSeq = next + 1 := by
          rw [hx, hm]
          rfl
        rw [offer_started_queued hn (by omega) hq hw, exhaustedAtStart_not (by omega), hover,
          offerWaitingResolutions_some (by simp [hmore]), ← hmem]
        exact congrArg (fun u => Host.Outcome.next (settle u)) (offer_first_resolution hmore hfree hnumber)
      · have hn := recoveredNext_of_le hnext (Nat.le_of_eq hlast)
        rw [hlast] at hn hover
        rw [offer_started_last hn hq hw, exhaustedAtStart_not (by omega), ← hover]
        exact congrArg (fun u => Host.Outcome.next (settle u)) (offerWaitingResolutions_none (by exact hres))
    · have hn := recoveredNext_of_lt hnext hlt
      rw [offer_started_dropped hn, exhaustedAtStart_full (by omega), reopened_of_none_left hn, startedBody,
        recoveryErased_of hr, hm]
      exact congrArg (fun u => Host.Outcome.next (settle u)) (offerWaitingResolutions_none (by exact hres))

end Sys2Proof.Machine
end

section
/-! SUPPORT. Records programmed and sectors erased, byte by byte (R61, R65, R68). -/

namespace Sys2Proof.Machine

/-- Bytes read one by one are the bytes read together. -/
theorem readBytes_eq_of {m : List Host.Cell} {l : List Byte} : ∀ {a : Nat},
    (∀ i < l.length, readByte m (a + i) = l.getD i erasedByte) → readBytes m a l.length = l := by
  induction l with
  | nil => exact fun _ => rfl
  | cons b rest ih =>
    intro a h
    have hfirst : readByte m a = b := h 0 (Nat.zero_lt_succ _)
    have hrest : readBytes m (a + 1) rest.length = rest := ih fun i hi => by
      have hnext := h (i + 1) (Nat.succ_lt_succ hi)
      rwa [show a + (i + 1) = a + 1 + i by omega] at hnext
    show readByte m a :: readBytes m (a + 1) rest.length = b :: rest
    rw [hfirst, hrest]

section
variable {e : DirEntry}

/-- R61: records of two indices share no byte. -/
theorem records_apart {i j : Nat} (h : i ≠ j) : recordAddr e i + recordSize e.kind e.count ≤ recordAddr e j
    ∨ recordAddr e j + recordSize e.kind e.count ≤ recordAddr e i := by
  unfold recordAddr
  rcases Nat.lt_or_gt_of_ne h with hlt | hlt
  · have hmul := Nat.mul_le_mul_right (recordSize e.kind e.count) (Nat.succ_le_of_lt hlt)
    rw [Nat.succ_mul] at hmul
    omega
  · have hmul := Nat.mul_le_mul_right (recordSize e.kind e.count) (Nat.succ_le_of_lt hlt)
    rw [Nat.succ_mul] at hmul
    omega

/-- R68: a byte outside every record programmed reads as before. -/
theorem readByte_programRecords (rs : List (Nat × List Byte)) : ∀ {mem : List Host.Cell}, Memory.wf mem = true →
    (∀ r ∈ rs, r.2.length = recordSize e.kind e.count) → ∀ {a : Nat},
    (∀ r ∈ rs, a < recordAddr e r.1 ∨ recordAddr e r.1 + recordSize e.kind e.count ≤ a) →
    readByte (programRecords e rs mem) a = readByte mem a := by
  induction rs with
  | nil => exact fun _ _ _ _ => rfl
  | cons r rest ih =>
    intro mem hwf hsize a hout
    obtain ⟨i, bytes⟩ := r
    have hlen : bytes.length = recordSize e.kind e.count := hsize _ List.mem_cons_self
    have hhere := hout _ List.mem_cons_self
    rw [programRecords, ih (Memory.wf_writeBytes _ _ _ hwf) (fun r hr => hsize r (List.mem_cons_of_mem _ hr))
      (fun r hr => hout r (List.mem_cons_of_mem _ hr)), readByte_writeBytes _ _ _ _ hwf, if_neg]
    rw [hlen]
    simp only at hhere
    omega

/-- R68: a record programmed reads back, whatever is programmed under other indices after it. -/
theorem recordBytes_programRecords (rs : List (Nat × List Byte)) : ∀ {mem : List Host.Cell}, Memory.wf mem = true →
    (rs.map Prod.fst).Nodup → (∀ r ∈ rs, r.2.length = recordSize e.kind e.count) →
    ∀ r ∈ rs, recordBytes (programRecords e rs mem) e r.1 = r.2 := by
  induction rs with
  | nil => simp
  | cons r rest ih =>
    intro mem hwf hnodup hsize
    obtain ⟨i, bytes⟩ := r
    obtain ⟨hnot, hrest⟩ := List.nodup_cons.mp hnodup
    have hwf' : Memory.wf (writeBytes mem (recordAddr e i) bytes) = true := Memory.wf_writeBytes _ _ _ hwf
    have hsizes : ∀ r ∈ rest, r.2.length = recordSize e.kind e.count := fun r hr => hsize r (List.mem_cons_of_mem _ hr)
    have hlen : bytes.length = recordSize e.kind e.count := hsize _ List.mem_cons_self
    rintro r' hr'
    rcases List.mem_cons.mp hr' with rfl | hr'
    · show recordBytes (programRecords e ((i, bytes) :: rest) mem) e i = bytes
      rw [recordBytes, ← hlen, programRecords]
      refine readBytes_eq_of fun k hk => ?_
      rw [readByte_programRecords rest hwf' hsizes, readByte_writeBytes _ _ _ _ hwf, if_pos (by omega),
        show recordAddr e i + k - recordAddr e i = k by omega]
      intro r hr
      have hne : r.1 ≠ i := fun hri => hnot (List.mem_map.mpr ⟨r, hr, hri⟩)
      have := records_apart (e := e) hne
      omega
    · exact ih hwf' hrest hsizes r' hr'

end

/-- Settles O31: the programmed records and the erased sector. -/
theorem tableFlashBytes : Obligations.TableFlashBytes := by
  refine ⟨fun e rs mem hwf hnodup hsize => ⟨Memory.wf_programRecords e rs hwf,
    recordBytes_programRecords rs hwf hnodup hsize, fun a hout => readByte_programRecords rs hwf hsize hout⟩,
    fun b k a _ => ?_⟩
  rw [eraseSector_eq]
  show ((lookupAt (dropRange b.mem (k * 4096) ((k + 1) * 4096)) a).getD erasedByte) = _
  rw [lookupAt_dropRange]
  split <;> rfl

end Sys2Proof.Machine
end

section
/-! SUPPORT. The memory update of stage 14 (R116, R117): what it finds, where it inserts and what it keeps. -/

namespace Sys2Proof.Machine

section
variable {slots : List (Nat × Sighting)} {k : Key} {i : Nat}

/-- R115: an entry found at the alternate slot is one whose primary slot holds no entry of the key. -/
theorem primary_empty_of_found_alternate {e : Sighting} (h : findSighting slots k = some (i, e))
    (halt : i = alternateSlot k) : sightingAt slots k (primarySlot k) = none := by
  cases hprimary : sightingAt slots k (primarySlot k) with
  | none => rfl
  | some r =>
    have hfound : findSighting slots k = some r := by unfold findSighting; rw [hprimary]
    obtain rfl : r = (i, e) := Option.some.inj (hfound.symm.trans h)
    obtain ⟨-, -, hslot⟩ := sightingAt_eq_some_iff.mp hprimary
    exact absurd (hslot.symm.trans halt) (primarySlot_ne_alternateSlot k)

/-- R115: a key that is not held has no entry at its primary slot. -/
theorem primary_empty_of_not_found (h : findSighting slots k = none) : sightingAt slots k (primarySlot k) = none := by
  unfold findSighting at h
  split at h
  · cases h
  · next hprimary => exact hprimary

/-- R115: an entry put at a slot of its key is the one found, when it hides behind no entry at the primary slot. -/
theorem findSighting_putAt (hrising : risingKeys slots = true) {e : Sighting} (hkey : e.key = k)
    (hown : i = primarySlot k ∨ i = alternateSlot k)
    (hfirst : i = alternateSlot k → sightingAt slots k (primarySlot k) = none) :
    findSighting (putAt slots i e) k = some (i, e) := by
  have hat : sightingAt (putAt slots i e) k i = some (i, e) :=
    sightingAt_eq_some_iff.mpr ⟨(lookupAt_putAt slots i i e hrising).trans (if_pos rfl), hkey, rfl⟩
  unfold findSighting
  rcases hown with hown | hown
  · rw [← hown, hat]
  · have hne : i ≠ primarySlot k := fun h => primarySlot_ne_alternateSlot k (h.symm.trans hown)
    have hprimary : sightingAt (putAt slots i e) k (primarySlot k) = none := by
      rw [← hfirst hown]
      unfold sightingAt
      rw [lookupAt_putAt slots i _ e hrising, if_neg hne]
    rw [hprimary, ← hown, hat]

/-- R117: an insertion evicts no entry of trip state PENDING or TAKEN. -/
theorem insertionSlot_unprotected (h : insertionSlot slots k = some i) {e : Sighting} (he : lookupAt slots i = some e) :
    e.trip = .none := by
  unfold insertionSlot at h
  split at h
  · next hfree =>
    rw [← Option.some.inj h, hfree] at he
    exact nomatch he
  · next hfree =>
    rw [← Option.some.inj h, hfree] at he
    exact nomatch he
  · next p a hp ha =>
    have hprimary : i = primarySlot k → p.trip = .none → e.trip = .none := by
      intro hi htrip
      rw [hi, hp] at he
      rw [← Option.some.inj he]
      exact htrip
    have halternate : i = alternateSlot k → a.trip = .none → e.trip = .none := by
      intro hi htrip
      rw [hi, ha] at he
      rw [← Option.some.inj he]
      exact htrip
    split at h
    · next hboth =>
      split at h
      · exact halternate (Option.some.inj h).symm hboth.2
      · exact hprimary (Option.some.inj h).symm hboth.1
    · split at h
      · next hfree => exact hprimary (Option.some.inj h).symm hfree
      · split at h
        · next hfree => exact halternate (Option.some.inj h).symm hfree
        · cases h

end

section
variable {slots : List (Nat × Sighting)} {window : Nat} {u : SightingUpdate}

/-- R116: a key that is held keeps its slot. -/
theorem remember_found {i : Nat} {e : Sighting} (h : findSighting slots u.key = some (i, e)) :
    remember slots window u = (putAt slots i (updatedSighting window u e), true) := by
  unfold remember
  rw [h]

/-- R117: a key that is not held is inserted. -/
theorem remember_inserted {i : Nat} (h : findSighting slots u.key = none) (hslot : insertionSlot slots u.key = some i) :
    remember slots window u = (putAt slots i (newSighting u), true) := by
  unfold remember
  rw [h, hslot]

/-- R117: with both slots protected the presentation is not remembered. -/
theorem remember_none (h : findSighting slots u.key = none) (hslot : insertionSlot slots u.key = none) :
    remember slots window u = (slots, false) := by
  unfold remember
  rw [h, hslot]

/-- What a memory update by one entry `f` put at slot `i` says of the statement of R116 and R117: the entry is found
under its key, nothing protected is evicted, and the trip is the one before or NONE. -/
theorem putAt_survives {i : Nat} {f : Sighting} (hrising : risingKeys slots = true)
    (hover : ∀ e, lookupAt slots i = some e → e.trip ≠ .none → f.key = e.key ∧ f.trip = e.trip) :
    ∀ j e, lookupAt slots j = some e → e.trip ≠ .none →
      ∃ f', lookupAt (putAt slots i f) j = some f' ∧ f'.key = e.key ∧ f'.trip = e.trip := by
  intro j e he htrip
  rw [lookupAt_putAt slots i j f hrising]
  by_cases hij : i = j
  · rw [if_pos hij]
    exact ⟨f, rfl, hover e (hij ▸ he) htrip⟩
  · rw [if_neg hij]
    exact ⟨e, he, rfl, rfl⟩

/-- The trip state of a key is that of the entry found. -/
theorem tripOf_of_found {i : Nat} {e : Sighting} {k : Key} (h : findSighting slots k = some (i, e)) :
    tripOf slots k = some e.trip := by
  unfold tripOf
  rw [h]
  rfl

end

/-- Settles O44, by the three ways the update goes: the key found, the key inserted, the presentation not remembered. -/
theorem protectedTripsSurvive : Obligations.ProtectedTripsSurvive := by
  intro slots window u hrising
  cases hfind : findSighting slots u.key with
  | some r =>
    obtain ⟨i, e⟩ := r
    obtain ⟨hown, hkey⟩ := findSighting_sound hfind
    have hat : lookupAt slots i = some e := by
      rcases findSighting_cases hfind with hs | hs <;> obtain ⟨hlook, -, hslot⟩ := sightingAt_eq_some_iff.mp hs <;>
        exact hslot ▸ hlook
    have hafter : findSighting (putAt slots i (updatedSighting window u e)) u.key
        = some (i, updatedSighting window u e) :=
      findSighting_putAt hrising hkey hown (primary_empty_of_found_alternate hfind)
    have htrip : tripOf slots u.key = some e.trip := tripOf_of_found hfind
    rw [remember_found hfind, tripOf_of_found hafter, htrip]
    refine ⟨putAt_survives hrising fun e' he' _ => ?_, ⟨fun _ => ⟨_, _, hafter⟩, fun _ => rfl⟩, fun h : true = false => (nomatch h),
      fun t ht => ht, fun h => (nomatch h), risingKeys_putAt _ _ _ hrising⟩
    obtain rfl : e = e' := Option.some.inj (hat.symm.trans he')
    exact ⟨rfl, rfl⟩
  | none =>
    have htrip : tripOf slots u.key = none := by unfold tripOf; rw [hfind]; rfl
    rw [htrip]
    cases hslot : insertionSlot slots u.key with
    | some i =>
      have hafter : findSighting (putAt slots i (newSighting u)) u.key = some (i, newSighting u) :=
        findSighting_putAt hrising rfl (insertionSlot_own hslot) fun _ => primary_empty_of_not_found hfind
      rw [remember_inserted hfind hslot, tripOf_of_found hafter]
      exact ⟨putAt_survives hrising fun e he htrip => absurd (insertionSlot_unprotected hslot he) htrip,
        ⟨fun _ => ⟨_, _, hafter⟩, fun _ => rfl⟩, fun h : true = false => (nomatch h), fun t ht => (nomatch ht), fun _ _ => rfl,
        risingKeys_putAt _ _ _ hrising⟩
    | none =>
      rw [remember_none hfind hslot, htrip]
      refine ⟨fun i e he _ => ⟨e, he, rfl, rfl⟩, ⟨fun h : false = true => (nomatch h), ?_⟩, fun _ => rfl,
        fun t ht => (nomatch ht), fun _ (h : false = true) => (nomatch h), hrising⟩
      rintro ⟨i, e, h⟩
      exact absurd (hfind.symm.trans h) nofun

end Sys2Proof.Machine
end

section
/-! SUPPORT. The checks and the placement of LOAD_OPEN (R59 to R63): what an accepted manifest declares, and where its
segments lie. -/

namespace Sys2Proof.Machine

/-! ## Spans of blocks -/

/-- Two spans of blocks share none (R61). -/
def spansApart (a b : Span) : Prop := a.1 + a.2 ≤ b.1 ∨ b.1 + b.2 ≤ a.1

theorem spansApart.symm {a b : Span} (h : spansApart a b) : spansApart b a := Or.symm h

theorem overlaps_eq_false_iff {a b : Span} : overlaps a b = false ↔ spansApart a b := by
  unfold overlaps spansApart
  simp only [Bool.and_eq_false_iff, decide_eq_false_iff_not, Nat.not_lt]
  exact or_comm

/-! ## The declarations (R60) -/

/-- The kind and authority by which a segment is known (R60). -/
def SegDecl.key (d : SegDecl) : SegKind × Nat := (d.kind, d.auth)

/-- R60: a segment has a record, and the authority that its kind takes. -/
def SegDecl.declared (auths : List AuthDecl) (d : SegDecl) : Prop :=
  1 ≤ d.count ∧ if sharedKind d.kind then d.auth = 0 else ∃ a ∈ auths, a.code = d.auth

section
variable {auths : List AuthDecl}

theorem segDeclOk_sound {earlier : List SegDecl} {d : SegDecl} (h : segDeclOk auths earlier d = true) :
    d.declared auths ∧ d.key ∉ earlier.map SegDecl.key := by
  unfold segDeclOk at h
  simp only [Bool.and_eq_true, decide_eq_true_eq, Bool.not_eq_true', List.any_eq_false] at h
  obtain ⟨⟨⟨hauth, hnew⟩, hcount⟩, -⟩ := h
  refine ⟨⟨hcount, ?_⟩, fun hmem => ?_⟩
  · split at hauth
    · next hshared => simpa [hshared] using hauth
    · next hshared => simpa [hshared] using hauth
  · obtain ⟨e, he, hkey⟩ := List.mem_map.mp hmem
    obtain ⟨hkind, hcode⟩ := Prod.mk.inj hkey
    exact hnew e he ⟨beq_iff_eq.mpr hkind, beq_iff_eq.mpr hcode⟩

/-- R60: the segments read are declared, and no two have one kind and authority. -/
theorem readSegs_sound {raws : List RawSeg} : ∀ {earlier segs : List SegDecl},
    readSegs auths earlier raws = .ok segs → (∀ d ∈ earlier, d.declared auths) → (earlier.map SegDecl.key).Nodup →
    (∀ d ∈ segs, d.declared auths) ∧ (segs.map SegDecl.key).Nodup := by
  induction raws with
  | nil =>
    intro earlier segs h hdecl hnodup
    obtain rfl : earlier = segs := Except.ok.inj h
    exact ⟨hdecl, hnodup⟩
  | cons r rest ih =>
    intro earlier segs h hdecl hnodup
    unfold readSegs at h
    split at h
    · cases h
    next d _ =>
    split at h
    next hok =>
      obtain ⟨hd, hnew⟩ := segDeclOk_sound hok
      refine ih h ?_ ?_
      · simpa [or_imp, forall_and] using And.intro hdecl hd
      · rw [List.map_append, List.map_singleton]
        exact hnodup.append (List.nodup_singleton _) (List.disjoint_singleton.mpr hnew)
    · cases h

/-- R59, R60: what the declarations check accepts. -/
theorem checkDeclarations_sound {g : Nat} {raw : RawManifest} {m : Manifest} (h : checkDeclarations g raw = .ok m) :
    (g < m.generation ∧ m.generation = raw.generation) ∧ authsOk m.auths = true
      ∧ (∀ d ∈ m.segs, d.declared m.auths) ∧ (m.segs.map SegDecl.key).Nodup := by
  unfold checkDeclarations at h
  split at h
  · cases h
  next hgen =>
  split at h
  · cases h
  next hauths =>
  split at h
  · cases h
  next segs hsegs =>
  split at h
  · cases h
    obtain ⟨hdecl, hnodup⟩ := readSegs_sound hsegs (fun d hd => nomatch hd) List.nodup_nil
    exact ⟨⟨by simp only; omega, rfl⟩, by simpa using hauths, hdecl, hnodup⟩
  · cases h

/-- R61: a declared segment has a block. -/
theorem segLength_pos {d : SegDecl} (h : d.declared auths) : 1 ≤ segLength d := by
  have hcount := h.1
  have hsize : 1 ≤ recordSize d.kind d.count := by cases d.kind <;> simp [recordSize, hcount]
  have hbytes : 1 ≤ d.count * recordSize d.kind d.count := Nat.mul_pos hcount hsize
  unfold segLength
  omega

end

/-! ## The fixed segments (R62) -/

/-- The span that a fixed segment names. -/
def SegDecl.fixedSpan (d : SegDecl) : Option Span := d.fixedAt.map fun b => (b, segLength d)

/-- R62: the fixed spans are those named, in manifest order; they fit, and no two share a block. -/
theorem checkFixed_sound {segs : List SegDecl} : ∀ {position : Nat} {earlier fixed : List Span},
    checkFixed position earlier segs = .ok fixed → (∀ f ∈ earlier, f.1 + f.2 ≤ 256) → earlier.Pairwise spansApart →
    fixed = earlier ++ segs.filterMap SegDecl.fixedSpan ∧ (∀ f ∈ fixed, f.1 + f.2 ≤ 256)
      ∧ fixed.Pairwise spansApart := by
  induction segs with
  | nil =>
    intro position earlier fixed h hfit hapart
    obtain rfl : earlier = fixed := Except.ok.inj h
    exact ⟨(List.append_nil _).symm, hfit, hapart⟩
  | cons d rest ih =>
    intro position earlier fixed h hfit hapart
    unfold checkFixed at h
    split at h
    next hfloat =>
      obtain ⟨hfixed, hrest⟩ := ih h hfit hapart
      rw [List.filterMap_cons_none (by rw [SegDecl.fixedSpan, hfloat]; rfl)]
      exact ⟨hfixed, hrest⟩
    next b hb =>
    split at h
    · cases h
    next hroom =>
    split at h
    · cases h
    next hclear =>
      have hnew : ∀ f ∈ earlier, spansApart f (b, segLength d) := fun f hf =>
        (overlaps_eq_false_iff.mp (Bool.eq_false_iff.mpr fun ho => hclear (List.any_eq_true.mpr ⟨f, hf, ho⟩))).symm
      obtain ⟨hfixed, hrest⟩ := ih h
        (by simpa [or_imp, forall_and] using And.intro hfit (Nat.le_of_not_lt hroom))
        (List.pairwise_append.mpr ⟨hapart, List.pairwise_singleton _ _, by simpa using hnew⟩)
      rw [List.filterMap_cons_some (b := (b, segLength d)) (by rw [SegDecl.fixedSpan, hb]; rfl)]
      exact ⟨by rw [hfixed, List.append_assoc]; rfl, hrest⟩

/-! ## One floating segment (R63) -/

theorem alignment_pos (len : Nat) : 0 < alignment len := by
  unfold alignment
  split_ifs <;> decide

theorem le_alignUp (n : Nat) {a : Nat} (ha : 0 < a) : n ≤ alignUp n a := by
  have hdiv := Nat.div_add_mod (n + a - 1) a
  have hmod := Nat.mod_lt (n + a - 1) ha
  unfold alignUp
  rw [Nat.mul_comm]
  omega

theorem dvd_alignUp (n a : Nat) : a ∣ alignUp n a := Nat.dvd_mul_left a _

/-- R61, in numbers: what the alignment says of a block by the segment's length. -/
theorem aligned_of_dvd {len b : Nat} (h : alignment len ∣ b) : (2 ≤ len → b % 2 = 0) ∧ (3 ≤ len → b % 4 = 0)
    ∧ (5 ≤ len → b % 8 = 0) ∧ (9 ≤ len → b % 16 = 0) := by
  unfold alignment at h
  split_ifs at h <;> omega

/-- The step by which the overlapping span that starts lowest is chosen. -/
def lowerSpan (best : Option Span) (x : Span) : Option Span :=
  match best with
  | none => some x
  | some b => if x.1 < b.1 then some x else some b

theorem lowestOverlap_eq (fixed : List Span) (s : Span) :
    lowestOverlap fixed s = (fixed.filter (overlaps s)).foldl lowerSpan none := rfl

/-- The lower of two spans is one of them. -/
theorem lowerSpan_mem (best : Option Span) (x : Span) : ∃ y, lowerSpan best x = some y ∧ (y = x ∨ best = some y) := by
  cases best with
  | none => exact ⟨x, rfl, .inl rfl⟩
  | some b =>
    by_cases hlt : x.1 < b.1
    · exact ⟨x, if_pos hlt, .inl rfl⟩
    · exact ⟨b, if_neg hlt, .inr rfl⟩

/-- The lowest of some spans is one of them, and there is none only of no spans. -/
theorem foldl_lowerSpan {l : List Span} : ∀ {best : Option Span},
    (l.foldl lowerSpan best = none → l = [] ∧ best = none)
      ∧ ∀ f, l.foldl lowerSpan best = some f → f ∈ l ∨ best = some f := by
  induction l with
  | nil => exact fun {best} => ⟨fun h => ⟨rfl, h⟩, fun f h => .inr h⟩
  | cons x rest ih =>
    intro best
    obtain ⟨y, hy, hmem⟩ := lowerSpan_mem best x
    obtain ⟨hnone, hsome⟩ := ih (best := lowerSpan best x)
    refine ⟨fun h => ?_, fun f hf => ?_⟩
    · obtain ⟨-, hstep⟩ := hnone h
      exact nomatch hy.symm.trans hstep
    · rcases hsome f hf with hin | hstep
      · exact .inl (List.mem_cons_of_mem _ hin)
      · obtain rfl : y = f := Option.some.inj (hy.symm.trans hstep)
        exact hmem.imp_left fun h : y = x => h ▸ List.mem_cons_self

/-- R63: no overlapping fixed span is found only when there is none. -/
theorem lowestOverlap_none {fixed : List Span} {s : Span} (h : lowestOverlap fixed s = none) :
    ∀ f ∈ fixed, spansApart s f := by
  rw [lowestOverlap_eq] at h
  obtain ⟨hempty, -⟩ := foldl_lowerSpan.1 h
  exact fun f hf => overlaps_eq_false_iff.mp (Bool.eq_false_iff.mpr fun ho =>
    List.not_mem_nil (hempty ▸ List.mem_filter.mpr ⟨hf, ho⟩))

/-- R63: a fixed span found overlaps. -/
theorem lowestOverlap_some {fixed : List Span} {s f : Span} (h : lowestOverlap fixed s = some f) : overlaps s f = true := by
  rw [lowestOverlap_eq] at h
  rcases foldl_lowerSpan.2 f h with hmem | hnone
  · exact (List.mem_filter.mp hmem).2
  · cases hnone

/-- R63: a block placed is aligned, fits and is clear of every fixed span. -/
def placedAt (fixed : List Span) (len b : Nat) : Prop :=
  alignment len ∣ b ∧ b + len ≤ 256 ∧ ∀ f ∈ fixed, spansApart (b, len) f

/-- R63: from an aligned candidate the block given is placed and not below it. -/
theorem placeFrom_sound {fixed : List Span} {len b : Nat} : ∀ {fuel candidate : Nat},
    placeFrom fixed len fuel candidate = some b → alignment len ∣ candidate → placedAt fixed len b ∧ candidate ≤ b := by
  intro fuel
  induction fuel with
  | zero => exact fun h => nomatch h
  | succ fuel ih =>
    intro candidate h halign
    unfold placeFrom at h
    split at h
    · cases h
    next hroom =>
    split at h
    next hclear =>
      obtain rfl : candidate = b := Option.some.inj h
      exact ⟨⟨halign, Nat.le_of_not_lt hroom, lowestOverlap_none hclear⟩, Nat.le_refl _⟩
    next f hf =>
      obtain ⟨hplaced, hle⟩ := ih h (dvd_alignUp _ _)
      refine ⟨hplaced, Nat.le_trans ?_ (Nat.le_trans (le_alignUp (f.1 + f.2) (alignment_pos len)) hle)⟩
      have hover := lowestOverlap_some hf
      simp only [overlaps, Bool.and_eq_true, decide_eq_true_eq] at hover
      omega

theorem placeOne_sound {fixed : List Span} {cursor len b : Nat} (h : placeOne fixed cursor len = some b) :
    placedAt fixed len b ∧ cursor ≤ b := by
  obtain ⟨hplaced, hle⟩ := placeFrom_sound h (dvd_alignUp _ _)
  exact ⟨hplaced, Nat.le_trans (le_alignUp _ (alignment_pos len)) hle⟩

/-! ## The floating segments in their order (R63) -/

section
variable {segs : List SegDecl} {fixed : List Span}

/-- R63: one step of the placement. The key names no floating segment and is passed over, or its segment is placed from
the cursor. -/
theorem placeFloating_cons {cursor : Nat} {placed out : Placed} {k : SegKind × Nat} {rest : List (SegKind × Nat)}
    (h : placeFloating segs fixed cursor placed (k :: rest) = .ok out) :
    ((∀ d ∈ segs, d.fixedAt = none → d.key ≠ k) ∧ placeFloating segs fixed cursor placed rest = .ok out)
    ∨ ∃ d ∈ segs, d.key = k ∧ ∃ b, placeOne fixed cursor (segLength d) = some b
      ∧ placeFloating segs fixed (b + segLength d) (placed ++ [(k, b)]) rest = .ok out := by
  unfold placeFloating at h
  split at h
  next hnone =>
    refine .inl ⟨fun d hd hfloat hkey => ?_, h⟩
    have hno := List.findIdx?_eq_none_iff.mp hnone d hd
    obtain ⟨hkind, hauth⟩ := Prod.mk.inj hkey
    simp [hkind, hauth, hfloat] at hno
  next i hi =>
    obtain ⟨hlt, hat, -⟩ := List.findIdx?_eq_some_iff_getElem.mp hi
    have hlen : (segs[i]?.map segLength).getD 0 = segLength segs[i] := by
      rw [List.getElem?_eq_getElem hlt]
      rfl
    simp only [Bool.and_eq_true, beq_iff_eq] at hat
    obtain ⟨⟨hkind, hauth⟩, -⟩ := hat
    simp only [hlen] at h
    split at h
    · cases h
    next b hb => exact .inr ⟨segs[i], List.getElem_mem hlt, Prod.ext hkind hauth, b, hb, h⟩

/-- The blocks given from a cursor on: each is placed for its segment, they ascend without sharing a block, and every
floating segment whose key is in the order has one. -/
structure PlacedFrom (segs : List SegDecl) (fixed : List Span) (cursor : Nat) (order : List (SegKind × Nat))
    (new : Placed) : Prop where
  sound : ∀ p ∈ new, cursor ≤ p.2 ∧ ∀ d ∈ segs, d.key = p.1 → placedAt fixed (segLength d) p.2
  ascending : new.Pairwise fun p q => ∀ d ∈ segs, d.key = p.1 → p.2 + segLength d ≤ q.2
  complete : ∀ d ∈ segs, d.fixedAt = none → d.key ∈ order → ∃ b, (d.key, b) ∈ new

theorem placeFloating_sound (hkeys : (segs.map SegDecl.key).Nodup) {order : List (SegKind × Nat)} :
    ∀ {cursor : Nat} {placed out : Placed}, placeFloating segs fixed cursor placed order = .ok out →
    ∃ new, out = placed ++ new ∧ PlacedFrom segs fixed cursor order new := by
  induction order with
  | nil =>
    intro cursor placed out h
    obtain rfl : placed = out := Except.ok.inj h
    exact ⟨[], (List.append_nil _).symm, fun p hp => (nomatch hp), .nil, fun d _ _ hd => (nomatch hd)⟩
  | cons k rest ih =>
    intro cursor placed out h
    rcases placeFloating_cons h with ⟨hnone, hrest⟩ | ⟨d, hd, rfl, b, hb, hrest⟩
    · obtain ⟨new, hout, hnew⟩ := ih hrest
      refine ⟨new, hout, hnew.sound, hnew.ascending, fun d hd hfloat hmem => ?_⟩
      exact hnew.complete d hd hfloat ((List.mem_cons.mp hmem).resolve_left (hnone d hd hfloat))
    · obtain ⟨new, hout, hnew⟩ := ih hrest
      obtain ⟨hplaced, hcursor⟩ := placeOne_sound hb
      have hsame : ∀ d' ∈ segs, d'.key = d.key → d' = d := fun d' hd' hkey =>
        List.inj_on_of_nodup_map hkeys hd' hd hkey
      refine ⟨(d.key, b) :: new, by rw [hout, List.append_assoc]; rfl, ?_, ?_, ?_⟩
      · intro p hp
        rcases List.mem_cons.mp hp with rfl | hp
        · exact ⟨hcursor, fun d' hd' hkey => hsame d' hd' hkey ▸ hplaced⟩
        · obtain ⟨hle, hseg⟩ := hnew.sound p hp
          exact ⟨by omega, hseg⟩
      · refine List.pairwise_cons.mpr ⟨fun q hq d' hd' hkey => ?_, hnew.ascending⟩
        rw [hsame d' hd' hkey]
        exact (hnew.sound q hq).1
      · intro d' hd' hfloat hmem
        by_cases hkey : d'.key = d.key
        · exact ⟨b, hkey ▸ List.mem_cons_self⟩
        · obtain ⟨b', hb'⟩ := hnew.complete d' hd' hfloat ((List.mem_cons.mp hmem).resolve_left hkey)
          exact ⟨b', List.mem_cons_of_mem _ hb'⟩

end

/-- R63: the order of the floating segments leaves out no segment that R60 lets be declared. -/
theorem declared_key_mem_placementOrder {auths : List AuthDecl} (hok : authsOk auths = true) {d : SegDecl}
    (hd : d.declared auths) : d.key ∈ placementOrder auths := by
  have hauth := hd.2
  unfold SegDecl.key placementOrder
  split at hauth
  next hshared =>
    rw [hauth]
    cases hkind : d.kind <;> simp_all [sharedKind]
  next hshared =>
    obtain ⟨a, ha, hcode⟩ := hauth
    simp only [authsOk, Bool.and_eq_true, decide_eq_true_eq, List.all_eq_true] at hok
    obtain ⟨⟨⟨-, hranges⟩, -⟩, hranks⟩ := hok
    obtain ⟨⟨⟨-, -⟩, hlow⟩, hhigh⟩ := hranges a ha
    have hmem : d.auth ∈ authsByRank auths := by
      refine List.mem_filterMap.mpr ⟨a.rank, ?_, ?_⟩
      · simp only [List.mem_cons, List.not_mem_nil, or_false]
        omega
      · obtain ⟨a', ha'⟩ := Option.isSome_iff_exists.mp
          (List.find?_isSome.mpr ⟨a, ha, beq_self_eq_true a.rank⟩ : (auths.find? fun x => x.rank == a.rank).isSome = true)
        have hrank : a'.rank = a.rank := by simpa using List.find?_some ha'
        rw [ha', List.inj_on_of_nodup_map hranks (List.mem_of_find?_eq_some ha') ha hrank]
        exact congrArg some hcode
    refine List.mem_append_left _ (List.mem_append_right _ (List.mem_flatMap.mpr ⟨d.auth, hmem, ?_⟩))
    cases hkind : d.kind <;> simp_all [sharedKind]

/-! ## The directory -/

/-- The first block that the directory gives a segment (R63). -/
def SegDecl.firstBlock (placed : Placed) (d : SegDecl) : Nat :=
  d.fixedAt.getD ((placed.lookup (d.kind, d.auth)).getD 0)

/-- What `openManifest` has checked of a manifest that it accepts, and where its segments stand. -/
structure Accepted (m : Manifest) (fixed : List Span) (placed : Placed) : Prop where
  auths : authsOk m.auths = true
  declared : ∀ d ∈ m.segs, d.declared m.auths
  keys : (m.segs.map SegDecl.key).Nodup
  spans : fixed = m.segs.filterMap SegDecl.fixedSpan
  fit : ∀ f ∈ fixed, f.1 + f.2 ≤ 256
  apart : fixed.Pairwise spansApart
  blocks : PlacedFrom m.segs fixed 0 (placementOrder m.auths) placed

/-- R59: an accepted manifest has passed the three checks, and its directory is that of its placement. -/
theorem openManifest_accepted {g : Nat} {raw : RawManifest} {m : Manifest} {d : List DirEntry}
    (h : openManifest g raw = .ok (m, d)) : (g < m.generation ∧ m.generation = raw.generation)
      ∧ ∃ fixed placed, Accepted m fixed placed ∧ d = directoryOf m.segs placed := by
  unfold openManifest at h
  split at h
  · cases h
  next m' hdecl =>
  split at h
  · cases h
  next fixed hfixed =>
  split at h
  · cases h
  next placed hplaced =>
    cases h
    obtain ⟨hgen, hauths, hdeclared, hkeys⟩ := checkDeclarations_sound hdecl
    obtain ⟨hspans, hfit, hapart⟩ := checkFixed_sound hfixed (fun f hf => nomatch hf) .nil
    obtain ⟨new, hnew, hblocks⟩ := placeFloating_sound hkeys hplaced
    obtain rfl : placed = new := hnew
    exact ⟨hgen, fixed, placed, ⟨hauths, hdeclared, hkeys, hspans, hfit, hapart, hblocks⟩, rfl⟩

section
variable {m : Manifest} {fixed : List Span} {placed : Placed} {x y : SegDecl}

/-- R62: a fixed segment stands at the block it names. -/
theorem Accepted.fixed_mem (h : Accepted m fixed placed) (hx : x ∈ m.segs) {b : Nat} (hb : x.fixedAt = some b) :
    (x.firstBlock placed, segLength x) ∈ fixed := by
  rw [h.spans]
  exact List.mem_filterMap.mpr ⟨x, hx, by rw [SegDecl.fixedSpan, SegDecl.firstBlock, hb]; rfl⟩

/-- R63: a floating segment stands at a block that the placement gave to its key. -/
theorem Accepted.floating_mem (h : Accepted m fixed placed) (hx : x ∈ m.segs) (hfloat : x.fixedAt = none) :
    (x.key, x.firstBlock placed) ∈ placed := by
  obtain ⟨b, hb⟩ := h.blocks.complete x hx hfloat
    (declared_key_mem_placementOrder h.auths (h.declared x hx))
  obtain ⟨c, hc⟩ := Option.isSome_iff_exists.mp
    (List.lookup_isSome_iff.mpr ⟨_, hb, beq_self_eq_true x.key⟩ : (placed.lookup x.key).isSome = true)
  obtain ⟨l₁, l₂, hplaced, -⟩ := List.lookup_eq_some_iff.mp hc
  have hfirst : x.firstBlock placed = c := by
    rw [SegDecl.firstBlock, hfloat]
    exact congrArg (Option.getD · 0) hc
  rw [hfirst, hplaced]
  exact List.mem_append_right _ List.mem_cons_self

theorem Accepted.floating_placedAt (h : Accepted m fixed placed) (hx : x ∈ m.segs) (hfloat : x.fixedAt = none) :
    placedAt fixed (segLength x) (x.firstBlock placed) :=
  (h.blocks.sound _ (h.floating_mem hx hfloat)).2 x hx rfl

/-- R61: every segment lies within the 256 blocks. -/
theorem Accepted.fits (h : Accepted m fixed placed) (hx : x ∈ m.segs) :
    x.firstBlock placed + segLength x ≤ 256 := by
  cases hb : x.fixedAt with
  | none => exact (h.floating_placedAt hx hb).2.1
  | some b => exact h.fit _ (h.fixed_mem hx hb)

/-- R63: two floating segments share no block. -/
theorem Accepted.floating_apart (h : Accepted m fixed placed) (hx : x ∈ m.segs) (hy : y ∈ m.segs)
    (hxf : x.fixedAt = none) (hyf : y.fixedAt = none) (hne : x.key ≠ y.key) :
    spansApart (x.firstBlock placed, segLength x) (y.firstBlock placed, segLength y) := by
  have hsymm : Std.Symm fun p q : (SegKind × Nat) × Nat =>
      (∀ d ∈ m.segs, d.key = p.1 → p.2 + segLength d ≤ q.2) ∨ ∀ d ∈ m.segs, d.key = q.1 → q.2 + segLength d ≤ p.2 :=
    ⟨fun _ _ => Or.symm⟩
  have hblocks := (h.blocks.ascending.imp fun hpq => Or.inl hpq).forall
    (R := fun p q => (∀ d ∈ m.segs, d.key = p.1 → p.2 + segLength d ≤ q.2)
      ∨ ∀ d ∈ m.segs, d.key = q.1 → q.2 + segLength d ≤ p.2)
    (h.floating_mem hx hxf) (h.floating_mem hy hyf) (fun heq => hne (congrArg Prod.fst heq))
  exact hblocks.imp (fun hxy => hxy x hx rfl) fun hyx => hyx y hy rfl

/-- R61: no two segments share a block. -/
theorem Accepted.segments_apart (h : Accepted m fixed placed) : m.segs.Pairwise fun x y =>
    spansApart (x.firstBlock placed, segLength x) (y.firstBlock placed, segLength y) := by
  have hfixed := List.pairwise_filterMap.mp (h.spans ▸ h.apart)
  refine ((List.pairwise_map.mp h.keys).and hfixed).imp_of_mem ?_
  rintro x y hx hy ⟨hne, hboth⟩
  cases hxf : x.fixedAt with
  | none =>
    cases hyf : y.fixedAt with
    | none => exact h.floating_apart hx hy hxf hyf hne
    | some b => exact (h.floating_placedAt hx hxf).2.2 _ (h.fixed_mem hy hyf)
  | some a =>
    cases hyf : y.fixedAt with
    | none => exact ((h.floating_placedAt hy hyf).2.2 _ (h.fixed_mem hx hxf)).symm
    | some b =>
      have hxb : x.fixedSpan = some (x.firstBlock placed, segLength x) := by
        rw [SegDecl.fixedSpan, SegDecl.firstBlock, hxf]
        rfl
      have hyb : y.fixedSpan = some (y.firstBlock placed, segLength y) := by
        rw [SegDecl.fixedSpan, SegDecl.firstBlock, hyf]
        rfl
      exact hboth _ hxb _ hyb

end

/-- Settles O28: the three checks, then each segment by whether it is fixed or floating. -/
theorem directoryFits : Obligations.DirectoryFits := by
  intro g raw m d h
  obtain ⟨⟨hgen, hsame⟩, fixed, placed, hacc, rfl⟩ := openManifest_accepted h
  refine ⟨hgen, hsame, List.length_map _, ?_, List.pairwise_map.mpr hacc.segments_apart, ?_⟩
  · intro e he
    obtain ⟨x, hx, rfl⟩ := List.mem_map.mp he
    exact ⟨segLength_pos (hacc.declared x hx), hacc.fits hx⟩
  · intro i e x he hx
    rw [directoryOf, List.getElem?_map, hx] at he
    obtain rfl := Option.some.inj he
    refine ⟨rfl, rfl, rfl, rfl, fun b hb => congrArg (Option.getD · _) hb, fun hfloat => ?_⟩
    exact aligned_of_dvd (hacc.floating_placedAt (List.mem_of_getElem? hx) hfloat).1

end Sys2Proof.Machine
end

section
/-! SUPPORT. The stages of an evaluation, taken together: what each leaves in the ruling, and what the verdict record
makes of it (R79 to R94, R104, R109). -/

namespace Sys2Proof.Machine

/-! ## The memory, as stages 7 and 14 read it -/

theorem tripOf_eq_none_iff {slots : List (Nat × Sighting)} {k : Key} : tripOf slots k = none ↔ findSighting slots k = none := by
  unfold tripOf
  exact Option.map_eq_none_iff

section
variable {slots : List (Nat × Sighting)} {k : Key} {window coach : Nat} {now : Time}

theorem probe_notFound (h : probe slots k window coach now = .notFound) : tripOf slots k = none := by
  unfold probe at h
  split at h
  · next hfind => exact tripOf_eq_none_iff.mpr hfind
  · split at h <;> cases h

theorem probe_found {t : TripState} (h : probe slots k window coach now = .found t) : tripOf slots k = some t := by
  unfold probe at h
  split at h
  · cases h
  · next hfind =>
    split at h
    · cases h
    · cases h
      exact tripOf_of_found hfind

/-- R117: no slot is given when the occupants of both are PENDING or TAKEN. -/
theorem insertionSlot_eq_none_iff : insertionSlot slots k = none ↔
    (∃ e, lookupAt slots (primarySlot k) = some e ∧ e.trip ≠ .none)
      ∧ ∃ e, lookupAt slots (alternateSlot k) = some e ∧ e.trip ≠ .none := by
  unfold insertionSlot
  cases hp : lookupAt slots (primarySlot k) with
  | none => simp
  | some p =>
    cases ha : lookupAt slots (alternateSlot k) with
    | none => simp
    | some a =>
      have hchoice : (if a.time.before p.time then some (alternateSlot k) else some (primarySlot k)) ≠ none := by
        split <;> exact Option.some_ne_none _
      by_cases htp : p.trip = .none <;> by_cases hta : a.trip = .none <;> simp [htp, hta, hchoice]

/-- R93: a presentation is not remembered only when its key is not held and no slot is given. -/
theorem remember_eq_false_iff {u : SightingUpdate} :
    (remember slots window u).2 = false ↔ findSighting slots u.key = none ∧ insertionSlot slots u.key = none := by
  cases hfind : findSighting slots u.key with
  | some r => rw [remember_found hfind]; simp
  | none =>
    cases hslot : insertionSlot slots u.key with
    | some i => rw [remember_inserted hfind hslot]; simp
    | none => rw [remember_none hfind hslot]; simp

end

/-! ## Stages 1 to 6 -/

theorem stages1to6_error {b : Option Bank} {p : Presentation} {cls : VClass} {reason : Reason}
    (h : stages1to6 b p = .error (cls, reason)) : reason ∈ reasonsBeforeStage8 ∧ cls = classOfReason reason := by
  unfold stages1to6 at h
  split at h
  · cases h; decide
  split at h
  · cases h; decide
  split at h
  · cases h; decide
  split at h
  · cases h; decide
  split at h
  · cases h; decide
  split at h
  · cases h; decide
  · cases h

theorem stages1to6_ok {b : Option Bank} {p : Presentation} {bank : Bank} {prod : ProductRec}
    (h : stages1to6 b p = .ok (bank, prod)) : b = some bank ∧ productLookup bank p.key.auth p.product = some prod := by
  unfold stages1to6 at h
  split at h
  · cases h
  split at h
  · cases h
  split at h
  · cases h
  split at h
  · cases h
  split at h
  · cases h
  split at h
  · cases h
  · next hlookup _ =>
    cases h
    exact ⟨rfl, hlookup⟩

/-! ## Stage 8 -/

section
variable {b : Bank} {prod : ProductRec} {p : Presentation} {s : Snapshot}

/-- The reasons that stage 8 decides (R85, R86). -/
def reasonsOfStage8 : List Reason := [.notYetValid, .expired, .expiredUncertain]

/-- R85: within the validity the presentation is no later than its end. -/
theorem stage8_within (h : stage8 b prod p s = .within) : s.now.atOrBefore p.validEnd = true := by
  unfold stage8 at h
  split at h
  · cases h
  split at h
  · next hin => exact hin
  · unfold expiryRule at h
    split at h
    · cases h
    · split_ifs at h

/-- R86: a grace is for a presentation later than its validity end, and of two reasons, the first with a detail. -/
theorem stage8_grace {reason : Reason} {detail : Detail} (h : stage8 b prod p s = .grace reason detail) :
    s.now.atOrBefore p.validEnd = false
      ∧ (reason = .begunBeforeExpiry ∨ reason = .gracePeriod ∧ detail = .absent) := by
  unfold stage8 at h
  split at h
  · cases h
  split at h
  · cases h
  · next hlate =>
    refine ⟨Bool.eq_false_iff.mpr hlate, ?_⟩
    unfold expiryRule at h
    split at h
    · cases h; exact .inl rfl
    · split_ifs at h
      cases h; exact .inr ⟨rfl, rfl⟩

/-- R85, R86: a decision of stage 8 has its reason's class, and HISTORY_SHORT for EXPIRED_UNCERTAIN of a wrapped
history. -/
theorem stage8_decided {cls : VClass} {reason : Reason} {short : Bool} (h : stage8 b prod p s = .decided cls reason short) :
    reason ∈ reasonsOfStage8 ∧ cls = classOfReason reason ∧ (reason = .expiredUncertain ↔ short = true)
      ∧ (short = true → s.wrapped = true) := by
  unfold stage8 at h
  split at h
  · cases h; simp [reasonsOfStage8, classOfReason]
  split at h
  · cases h
  · unfold expiryRule at h
    split at h
    · cases h
    · split_ifs at h with _ hshort
      · cases h
        exact ⟨by decide, rfl, by simp, fun _ => (Bool.and_eq_true_iff.mp hshort).1⟩
      · cases h; simp [reasonsOfStage8, classOfReason]

end

/-! ## Stages 9 to 12 -/

/-- The reasons that stages 9 to 12 decide (R87 to R90). -/
def reasonsFromStage9 : List Reason :=
  [.valid, .recheck, .extension, .noPosition, .entitlement, .memoryFull, .consumeBusy, .noCover, .noTrips]

/-- What stages 9 to 12 leave in a ruling, for the product `prod`, what the probe found and the number of
pending-consume entries. -/
structure RuledFromStage9 (prod : ProductRec) (pr : Probe) (pendingCount : Nat) (r : Ruling) : Prop where
  reason : r.reason ∈ reasonsFromStage9
  cls : r.cls = classOfReason r.reason
  detail : r.detail ≠ .absent → r.reason = .entitlement
  consume : r.consume = true → prod.kind = .carnet ∧ pr ≠ .found .taken ∧ pr ≠ .found .pending ∧ pendingCount < 4
  recheck : r.cls = .accept → (r.reason = .recheck ↔ pr ≠ .notFound)
  pending : r.pendingConsume = true → prod.kind = .carnet ∧ pr = .found .pending
  grace : r.grace = none
  short : r.historyShort = false
  unmarked : r.recheck = false

section
variable {b : Bank} {prod : ProductRec} {p : Presentation} {pr : Probe} {n : Nat}

theorem pendingFlagOf_true (h : pendingFlagOf prod pr = true) : prod.kind = .carnet ∧ pr = .found .pending := by
  simpa [pendingFlagOf] using h

/-- A refusal carries nothing but its reason. -/
theorem RuledFromStage9.plain {cls : VClass} {reason : Reason} (hreason : reason ∈ reasonsFromStage9)
    (hcls : cls = classOfReason reason) (haccept : cls ≠ .accept) : RuledFromStage9 prod pr n (Ruling.plain cls reason) where
  reason := hreason
  cls := hcls
  detail h := absurd rfl h
  consume h := nomatch h
  recheck h := absurd h haccept
  pending h := nomatch h
  grace := rfl
  short := rfl
  unmarked := rfl

theorem stage11_error {given : Bool} {cls : VClass} {reason : Reason} (h : stage11 prod p pr n given = .error (cls, reason)) :
    reason ∈ reasonsFromStage9 ∧ cls = classOfReason reason ∧ cls ≠ .accept := by
  unfold stage11 at h
  split_ifs at h <;> cases h <;> decide

/-- R90: cover up to the target, up to a stop before it, or none. -/
theorem stage12_ruled {e : EffPos} {consume : Bool}
    (hconsume : consume = true → prod.kind = .carnet ∧ pr ≠ .found .taken ∧ pr ≠ .found .pending ∧ n < 4) :
    RuledFromStage9 prod pr n (stage12 b prod p e (pr != .notFound) consume (pendingFlagOf prod pr)) := by
  unfold stage12
  split
  · exact ⟨(by decide : Reason.noCover ∈ reasonsFromStage9), rfl, fun h => absurd rfl h, fun h => (nomatch h),
      fun h => (nomatch h), pendingFlagOf_true, rfl, rfl, rfl⟩
  split
  · refine ⟨?_, ?_, fun h => absurd rfl h, hconsume, fun _ => ?_, pendingFlagOf_true, rfl, rfl, rfl⟩ <;>
      by_cases hpr : pr = .notFound <;> simp [hpr, Ruling.plain, reasonsFromStage9, classOfReason]
  · exact ⟨(by decide : Reason.extension ∈ reasonsFromStage9), rfl, fun h => absurd rfl h, hconsume,
      fun h => (nomatch h), pendingFlagOf_true, rfl, rfl, rfl⟩

theorem stages9to12_ruled {s : Snapshot} {given : Bool} : RuledFromStage9 prod pr n (stages9to12 b prod p s pr n given) := by
  unfold stages9to12
  split
  · exact .plain (by decide) rfl (by decide)
  split
  · exact ⟨(by decide : Reason.entitlement ∈ reasonsFromStage9), rfl, fun _ => rfl, fun h => (nomatch h), fun h => (nomatch h), fun h => (nomatch h), rfl, rfl, rfl⟩
  split
  · next h11 =>
    obtain ⟨hreason, hcls, haccept⟩ := stage11_error h11
    exact .plain hreason hcls haccept
  · next h11 => exact stage12_ruled fun hconsume => stage11_consume (hconsume ▸ h11)

/-- R89: a carnet found PENDING is not consumed. -/
theorem RuledFromStage9.not_consume {r : Ruling} (h : RuledFromStage9 prod pr n r) (hpending : r.pendingConsume = true) :
    r.consume = false :=
  Bool.eq_false_iff.mpr fun hconsume => (h.consume hconsume).2.2.1 (h.pending hpending).2

end

/-! ## Stage 13 and the whole ruling -/

/-- What stages 8 to 13 leave in a ruling. -/
structure RuledFromStage8 (p : Presentation) (s : Snapshot) (prod : ProductRec) (pr : Probe) (pendingCount : Nat)
    (r : Ruling) : Prop where
  late : r.reason ∉ reasonsBeforeStage8
  cls : r.cls = classOfReason r.reason
  detail : r.detail ≠ .absent → r.reason = .entitlement ∨ r.reason = .begunBeforeExpiry
  consume : r.consume = true → prod.kind = .carnet ∧ pr ≠ .found .taken ∧ pr ≠ .found .pending ∧ pendingCount < 4
  recheck : r.cls = .accept → (r.reason = .recheck ↔ pr ≠ .notFound)
  pending : r.pendingConsume = true → prod.kind = .carnet ∧ pr = .found .pending ∧ r.consume = false
  grace : r.grace.isSome = true ↔ r.reason ∉ reasonsOfStage8 ∧ s.now.atOrBefore p.validEnd = false
  merged : r.cls = .acceptGrace → r.grace.isSome = true
  short : r.historyShort = true ↔ r.reason = .expiredUncertain
  wrapped : r.historyShort = true → s.wrapped = true
  unmarked : r.recheck = false

section
variable {p : Presentation} {s : Snapshot} {prod : ProductRec} {pr : Probe} {n : Nat} {r : Ruling}

/-- The reasons of stages 9 to 12 are none of the stages before them, nor of a grace. -/
theorem reasonsFromStage9_apart {x : Reason} (h : x ∈ reasonsFromStage9) : x ∉ reasonsBeforeStage8 ∧ x ∉ reasonsOfStage8
    ∧ classOfReason x ≠ .acceptGrace := by
  revert x
  decide

/-- R85: within the validity stage 8 leaves no grace, and the ruling is that of stages 9 to 12. -/
theorem RuledFromStage9.within (h : RuledFromStage9 prod pr n r) (hin : s.now.atOrBefore p.validEnd = true) :
    RuledFromStage8 p s prod pr n r := by
  obtain ⟨hlate, hafter, hnomerge⟩ := reasonsFromStage9_apart h.reason
  have hreason : r.reason ≠ .expiredUncertain := fun heq => hafter (heq ▸ by decide)
  exact ⟨hlate, h.cls, fun hd => .inl (h.detail hd), h.consume, h.recheck,
    fun hp => ⟨(h.pending hp).1, (h.pending hp).2, h.not_consume hp⟩, by simp [h.grace, hin],
    fun heq => absurd (h.cls.symm.trans heq) hnomerge, by simp [h.short, hreason], fun hs => (nomatch h.short.symm.trans hs),
    h.unmarked⟩

/-- R92: with a grace, ACCEPT takes the grace's reason and detail, and every other ruling keeps its own. -/
theorem RuledFromStage9.graced (h : RuledFromStage9 prod pr n r) {reason : Reason} {detail : Detail}
    (hlateEnd : s.now.atOrBefore p.validEnd = false)
    (hgrace : reason = .begunBeforeExpiry ∨ reason = .gracePeriod ∧ detail = .absent) :
    RuledFromStage8 p s prod pr n (graceMerge { r with grace := some (reason, detail) }) := by
  obtain ⟨hlate, hafter, hnomerge⟩ := reasonsFromStage9_apart h.reason
  have hreason : r.reason ≠ .expiredUncertain := fun heq => hafter (heq ▸ by decide)
  have hpending : r.pendingConsume = true → prod.kind = .carnet ∧ pr = .found .pending ∧ r.consume = false :=
    fun hp => ⟨(h.pending hp).1, (h.pending hp).2, h.not_consume hp⟩
  have hunshort : r.historyShort ≠ true := by simp [h.short]
  unfold graceMerge
  simp only
  split
  · have hplace : reason ∉ reasonsBeforeStage8 ∧ reason ∉ reasonsOfStage8 ∧ VClass.acceptGrace = classOfReason reason
        ∧ reason ≠ .expiredUncertain := by
      rcases hgrace with rfl | ⟨rfl, -⟩ <;> decide
    obtain ⟨hglate, hgafter, hgcls, hgcertain⟩ := hplace
    have hgdetail : detail ≠ .absent → reason = .begunBeforeExpiry := fun hd => hgrace.resolve_right fun hg => hd hg.2
    exact ⟨hglate, hgcls, fun hd => .inr (hgdetail hd), h.consume, fun heq => (nomatch heq), hpending,
      iff_of_true rfl ⟨hgafter, hlateEnd⟩, fun _ => rfl, iff_of_false hunshort hgcertain, fun hs => absurd hs hunshort,
      h.unmarked⟩
  · exact ⟨hlate, h.cls, fun hd => .inl (h.detail hd), h.consume, h.recheck, hpending,
      iff_of_true rfl ⟨hafter, hlateEnd⟩, fun _ => rfl, iff_of_false hunshort hreason, fun hs => absurd hs hunshort,
      h.unmarked⟩

/-- R85, R86: a decision of stage 8. -/
theorem decided_ruled {cls : VClass} {reason : Reason} {short : Bool} (hreason : reason ∈ reasonsOfStage8)
    (hcls : cls = classOfReason reason) (hshort : reason = .expiredUncertain ↔ short = true)
    (hwrapped : short = true → s.wrapped = true) :
    RuledFromStage8 p s prod pr n { Ruling.plain cls reason with historyShort := short } := by
  have hplace : reason ∉ reasonsBeforeStage8 ∧ classOfReason reason ≠ .accept ∧ classOfReason reason ≠ .acceptGrace := by
    revert hreason
    clear hshort hcls
    revert reason
    decide
  obtain ⟨hlate, hnoaccept, hnomerge⟩ := hplace
  exact ⟨hlate, hcls, fun hd => absurd rfl hd, fun hc => (nomatch hc), fun heq => absurd (hcls.symm.trans heq) hnoaccept,
    fun hp => (nomatch hp), iff_of_false (fun hg => (nomatch hg)) fun hr => hr.1 hreason,
    fun heq => absurd (hcls.symm.trans heq) hnomerge, hshort.symm, hwrapped, rfl⟩

/-- R92: the merge does not read the marks of stage 7. -/
theorem graceMerge_marked (recheck probed : Bool) : graceMerge { r with recheck := recheck, probed := probed }
    = { graceMerge r with recheck := recheck, probed := probed } := by
  unfold graceMerge
  simp only
  split
  · rfl
  · split <;> rfl

theorem graceMerge_recheck : (graceMerge r).recheck = r.recheck := by
  unfold graceMerge
  split
  · rfl
  · split <;> rfl

/-- R85 to R92: the ruling of stages 8 to 13. -/
theorem stages8to12_ruled {b : Bank} {given : Bool} :
    RuledFromStage8 p s prod pr n (graceMerge (stages8to12 b prod p s pr n given)) := by
  unfold stages8to12
  split
  · next h8 =>
    obtain ⟨hreason, hcls, hshort, hwrapped⟩ := stage8_decided h8
    exact decided_ruled hreason hcls hshort hwrapped
  · next h8 =>
    have h9 : RuledFromStage9 prod pr n (stages9to12 b prod p s pr n given) := stages9to12_ruled
    have hmerge : graceMerge (stages9to12 b prod p s pr n given) = stages9to12 b prod p s pr n given := by
      unfold graceMerge
      rw [h9.grace]
    rw [hmerge]
    exact h9.within (stage8_within h8)
  · next h8 =>
    obtain ⟨hlate, hgrace⟩ := stage8_grace h8
    exact stages9to12_ruled.graced hlate hgrace

end

/-! ## The ruling of an evaluation -/

/-- What the merged ruling of an evaluation says, in the words of the model's own state. -/
structure RulingSound (b : Option Bank) (p : Presentation) (s : Snapshot) (m : MemoryView) (r : Ruling) : Prop where
  cls : r.cls = classOfReason r.reason
  detail : r.detail ≠ .absent → r.reason = .entitlement ∨ r.reason = .begunBeforeExpiry
  probed : r.probed = true ↔ r.reason ∉ reasonsBeforeStage8
  recheck : r.recheck = true ↔ r.reason ∉ reasonsBeforeStage8 ∧ tripOf m.slots p.key ≠ none
  accepted : r.cls = .accept → (r.reason = .recheck ↔ r.recheck = true)
  consume : r.consume = true → m.pendingCount < 4 ∧ carnetShown b p ∧ tripOf m.slots p.key ≠ some .pending
    ∧ tripOf m.slots p.key ≠ some .taken
  pending : r.pendingConsume = true → carnetShown b p ∧ tripOf m.slots p.key = some .pending ∧ r.recheck = true
    ∧ r.consume = false
  grace : r.grace.isSome = true ↔ r.reason ∉ reasonsBeforeStage8 ∧ r.reason ∉ reasonsOfStage8
    ∧ s.now.atOrBefore p.validEnd = false
  merged : r.cls = .acceptGrace → r.grace.isSome = true
  short : r.historyShort = true ↔ r.reason = .expiredUncertain
  wrapped : r.historyShort = true → s.wrapped = true

section
variable {b : Option Bank} {p : Presentation} {s : Snapshot} {m : MemoryView}

/-- R81 to R84: a decision of stages 1 to 7. -/
theorem RulingSound.early {cls : VClass} {reason : Reason} (hreason : reason ∈ reasonsBeforeStage8)
    (hcls : cls = classOfReason reason) : RulingSound b p s m (graceMerge (Ruling.plain cls reason)) := by
  have hplace : classOfReason reason ≠ .accept ∧ classOfReason reason ≠ .acceptGrace ∧ reason ≠ .expiredUncertain := by
    clear hcls
    revert reason
    decide
  obtain ⟨hnoaccept, hnomerge, hcertain⟩ := hplace
  exact ⟨hcls, fun hd => absurd rfl hd, iff_of_false (fun h => (nomatch h)) (not_not.mpr hreason),
    iff_of_false (fun h => (nomatch h)) fun h => h.1 hreason, fun heq => absurd (hcls.symm.trans heq) hnoaccept,
    fun h => (nomatch h), fun h => (nomatch h), iff_of_false (fun h => (nomatch h)) fun h => h.1 hreason,
    fun heq => absurd (hcls.symm.trans heq) hnomerge, iff_of_false (fun h => (nomatch h)) hcertain, fun h => (nomatch h)⟩

/-- R84: what the probe of a presentation that passes stage 7 says of its trip. -/
def probeReads (m : MemoryView) (p : Presentation) : Probe → Prop
  | .notFound => tripOf m.slots p.key = none
  | .found t => tripOf m.slots p.key = some t
  | .duplicate => False

/-- R84: a ruling of stages 8 to 13 under the marks of stage 7. -/
theorem RuledFromStage8.sound {bank : Bank} {prod : ProductRec} {pr : Probe} {r : Ruling}
    (h6 : stages1to6 b p = .ok (bank, prod)) (hpr : probeReads m p pr)
    (h : RuledFromStage8 p s prod pr m.pendingCount r) :
    RulingSound b p s m { r with recheck := pr != .notFound, probed := true } := by
  obtain ⟨hbank, hprod⟩ := stages1to6_ok h6
  have hshown : prod.kind = .carnet → carnetShown b p := fun hkind => ⟨bank, prod, hbank, hprod, hkind⟩
  have hheld : (pr != .notFound) = true ↔ tripOf m.slots p.key ≠ none := by
    cases pr with
    | notFound => exact iff_of_false (by decide) (not_not.mpr hpr)
    | found t => exact iff_of_true rfl fun hnone => nomatch (show tripOf m.slots p.key = some t from hpr).symm.trans hnone
    | duplicate => exact hpr.elim
  have hfound : ∀ t, tripOf m.slots p.key = some t → pr = .found t := by
    intro t ht
    cases pr with
    | notFound => exact nomatch (show tripOf m.slots p.key = none from hpr).symm.trans ht
    | found t' => exact congrArg Probe.found (Option.some.inj ((show tripOf m.slots p.key = some t' from hpr).symm.trans ht))
    | duplicate => exact hpr.elim
  refine ⟨h.cls, h.detail, iff_of_true rfl h.late, ?_, fun hacc => ?_, fun hc => ?_, fun hp => ?_, ?_, h.merged, h.short,
    h.wrapped⟩
  · exact hheld.trans (and_iff_right h.late).symm
  · exact (h.recheck hacc).trans bne_iff_ne.symm
  · obtain ⟨hkind, htaken, hpending, hn⟩ := h.consume hc
    exact ⟨hn, hshown hkind, fun ht => hpending (hfound _ ht), fun ht => htaken (hfound _ ht)⟩
  · obtain ⟨hkind, rfl, hno⟩ := h.pending hp
    exact ⟨hshown hkind, hpr, rfl, hno⟩
  · exact h.grace.trans (and_iff_right h.late).symm

/-- R80 to R92: every ruling is sound, by the stage that decides it. -/
theorem graceMerge_stages1to12_sound : RulingSound b p s m (graceMerge (stages1to12 b p s m)) := by
  unfold stages1to12
  split
  · next h6 =>
    obtain ⟨hreason, hcls⟩ := stages1to6_error h6
    exact .early hreason hcls
  next bank prod h6 =>
  split
  · exact .early (by decide) rfl
  · next h7 =>
    have h8 : RuledFromStage8 p s prod .notFound m.pendingCount (graceMerge (stages8to12 bank prod p s .notFound
        m.pendingCount (insertionSlot m.slots p.key).isSome)) := stages8to12_ruled
    have hreads : probeReads m p .notFound := probe_notFound h7
    have hsound := h8.sound h6 hreads
    rw [show (Probe.notFound != .notFound) = false from rfl, ← h8.unmarked, graceMerge_recheck, ← graceMerge_marked] at hsound
    exact hsound
  · next t h7 =>
    rw [graceMerge_marked]
    exact stages8to12_ruled.sound (pr := .found t) h6 (probe_found h7)

end

end Sys2Proof.Machine
end

section
/-! SUPPORT. The fare and the position of a verdict record (R79, R91, R101, R104, R109), and the record as a whole. -/

namespace Sys2Proof.Machine

/-! ## The position -/

/-- The position that the verdict record shows (R79). -/
def shownPos (b : Option Bank) (s : Snapshot) : PosState := ((effectivePosition b s).map EffPos.pos).getD .unknown

section
variable {b : Option Bank} {s : Snapshot}

/-- R79: a position in effect is known, and of a bank. -/
theorem effectivePosition_some {e : EffPos} (h : effectivePosition b s = some e) : (∃ bank, b = some bank) ∧ e.pos ≠ .unknown := by
  unfold effectivePosition at h
  split at h
  · split at h
    · next hknown =>
      cases h
      exact ⟨⟨_, rfl⟩, hknown.1⟩
    · cases h
  · cases h

theorem shownPos_eq_unknown_iff : shownPos b s = .unknown ↔ effectivePosition b s = none := by
  unfold shownPos
  cases he : effectivePosition b s with
  | none => exact iff_of_true rfl rfl
  | some e => exact iff_of_false (effectivePosition_some he).2 (Option.some_ne_none e)

end

/-! ## The fare -/

/-- What the fare of a verdict of class `cls` says: its bounds, when there is none, and its HISTORY_SHORT. -/
structure FareSound (b : Option Bank) (s : Snapshot) (cls : VClass) (f : FareResult × Bool) : Prop where
  unfared : ¬ (cls = .supplementDue ∨ cls = .reject) ∨ shownPos b s = .unknown → f.1.amount = 0 ∧ f.1.runs = []
  bound : f.1.amount ≤ 65535
  saturated : f.1.saturated = true → f.1.amount = 65535 ∧ (cls = .supplementDue ∨ cls = .reject)
  short : f.2 = true ↔ cls = .reject ∧ shownPos b s ≠ .unknown ∧ s.wrapped = true

theorem walk_eq_clampTotal (b : Bank) (f : FareInput) (route a t : Nat) :
    ∃ total runs, walk b f route a t = clampTotal total runs := by
  unfold walk
  split <;> exact ⟨_, _, rfl⟩

section
variable {b : Option Bank} {s : Snapshot} {cls : VClass}

/-- R109: a walk's total is clamped, in the two classes that call for a walk. -/
theorem FareSound.walked {bank : Bank} {f : FareInput} {route a t : Nat} {short : Bool}
    (hcls : cls = .supplementDue ∨ cls = .reject) (hpos : shownPos b s ≠ .unknown)
    (hshort : short = true ↔ cls = .reject ∧ s.wrapped = true) : FareSound b s cls (walk bank f route a t, short) := by
  obtain ⟨total, runs, hwalk⟩ := walk_eq_clampTotal bank f route a t
  rw [hwalk]
  refine ⟨fun h => h.elim (absurd hcls) fun hunknown => absurd hunknown hpos, Nat.min_le_right _ _, fun hsat => ⟨?_, hcls⟩,
    hshort.trans (and_congr_right fun _ => (and_iff_right hpos).symm)⟩
  have hover : maxAmount < total := of_decide_eq_true hsat
  exact Nat.min_eq_right (Nat.le_of_lt hover)

/-- R91: no fare without a class and a position that call for one. -/
theorem FareSound.unwalked (h : ¬ (cls = .reject ∧ shownPos b s ≠ .unknown)) :
    FareSound b s cls ({ amount := 0, runs := [], saturated := false }, false) :=
  ⟨fun _ => ⟨rfl, rfl⟩, Nat.zero_le _, fun hsat => (nomatch hsat),
    iff_of_false (fun hf => nomatch hf) fun hr => h ⟨hr.1, hr.2.1⟩⟩

theorem fareOf_of_unknown {p : Presentation} {r : Ruling} (h : effectivePosition b s = none) :
    fareOf b p s r = ({ amount := 0, runs := [], saturated := false }, false) := by
  unfold fareOf
  rw [h]
  cases b <;> rfl

theorem fareOf_sound {p : Presentation} {r : Ruling} : FareSound b s r.cls (fareOf b p s r) := by
  cases he : effectivePosition b s with
  | none =>
    rw [fareOf_of_unknown he]
    exact .unwalked fun hr => hr.2 (shownPos_eq_unknown_iff.mpr he)
  | some e =>
    obtain ⟨⟨bank, rfl⟩, -⟩ := effectivePosition_some he
    have hpos : shownPos (some bank) s ≠ .unknown := fun hu => by
      rw [shownPos_eq_unknown_iff.mp hu] at he
      cases he
    unfold fareOf
    rw [he]
    dsimp only
    split
    · next hcls _ =>
      rw [hcls]
      exact .walked (.inl rfl) hpos (iff_of_false (fun hf => nomatch hf) fun hr => nomatch hr.1)
    · next hcls =>
      rw [hcls]
      exact .walked (.inr rfl) hpos (and_iff_right rfl).symm
    · next hreject _ => exact .unwalked fun hr => hreject hr.1

end

/-! ## The record -/

/-- R93: UNREMEMBERED stands when stage 14 is reached and gives no slot to a key that is not held. -/
theorem stage14_unremembered {p : Presentation} {s : Snapshot} {m : MemoryView} {r : Ruling} :
    (stage14 p s m r).2 = true ↔ r.probed = true ∧ tripOf m.slots p.key = none ∧ insertionSlot m.slots p.key = none := by
  unfold stage14
  split
  · next hprobed =>
    rw [Bool.not_eq_true', remember_eq_false_iff, tripOf_eq_none_iff]
    exact (and_iff_right hprobed).symm
  · next hprobed => exact iff_of_false (fun h => nomatch h) fun h => hprobed h.1

/-- R89, R94: consume stands in the three classes that let the trip go on. -/
theorem consumeStands_iff {cls : VClass} : consumeStands cls = true ↔ cls = .accept ∨ cls = .acceptGrace ∨ cls = .supplementDue := by
  cases cls <;> simp [consumeStands]

/-- R86: EXPIRED_UNCERTAIN is of class REFER, so that stage 8 leaves no HISTORY_SHORT in a REJECT. -/
theorem RulingSound.not_short_of_reject {b : Option Bank} {p : Presentation} {s : Snapshot} {m : MemoryView} {r : Ruling}
    (h : RulingSound b p s m r) (hcls : r.cls = .reject) : r.historyShort = false := by
  refine Bool.eq_false_iff.mpr fun hshort => ?_
  have hclass := h.cls.symm.trans hcls
  rw [h.short.mp hshort] at hclass
  cases hclass

/-- Settles O40: the sound ruling and the sound fare, field by field of the record. -/
theorem verdictRecordIsSound : Obligations.VerdictRecordIsSound := by
  intro b c m v hv
  have hr : RulingSound b c.pres c.snap m (graceMerge (stages1to12 b c.pres c.snap m)) := graceMerge_stages1to12_sound
  replace hv : v = verdictRecord b c (graceMerge (stages1to12 b c.pres c.snap m))
    (stage14 c.pres c.snap m (graceMerge (stages1to12 b c.pres c.snap m))).2 := hv
  generalize graceMerge (stages1to12 b c.pres c.snap m) = r at hr hv
  subst hv
  have hf : FareSound b c.snap r.cls (fareOf b c.pres c.snap r) := fareOf_sound
  have hshort : (r.historyShort || (fareOf b c.pres c.snap r).2) = true ↔ r.historyShort = true
      ∨ r.cls = .reject ∧ shownPos b c.snap ≠ .unknown ∧ c.snap.wrapped = true := by
    rw [Bool.or_eq_true, hf.short]
  refine ⟨hr.cls, hr.detail, fun hs hj => hf.unfared (.inl (not_or.mpr ⟨hs, hj⟩)), fun hu => hf.unfared (.inr hu), hf.bound,
    fun hc => ?_, hr.recheck, hr.accepted, hr.grace, hr.merged, ?_, hf.saturated, fun hu => hshort.mpr (.inl (hr.short.mpr hu)),
    fun hj hpos => ?_, fun hs => ?_, rfl, fun hp => ?_, ?_, fun hn => ?_, rfl, rfl⟩
  · obtain ⟨hconsume, hstands⟩ := Bool.and_eq_true_iff.mp hc
    exact ⟨consumeStands_iff.mp hstands, hr.consume hconsume⟩
  · exact stage14_unremembered.trans (and_congr hr.probed (and_congr_right fun _ => insertionSlot_eq_none_iff))
  · show (r.historyShort || (fareOf b c.pres c.snap r).2) = c.snap.wrapped
    rw [hr.not_short_of_reject hj, Bool.false_or, Bool.eq_iff_iff, hf.short]
    exact ⟨fun h => h.2.2, fun hw => ⟨hj, hpos, hw⟩⟩
  · rcases hshort.mp hs with hrs | ⟨hj, hpos, hw⟩
    · exact ⟨hr.wrapped hrs, .inl (hr.short.mp hrs)⟩
    · exact ⟨hw, .inr ⟨hj, hpos⟩⟩
  · obtain ⟨hshown, htrip, hrecheck, hconsume⟩ := hr.pending hp
    exact ⟨hshown, htrip, hrecheck, by show (r.consume && _) = false; rw [hconsume]; rfl⟩
  · exact Option.isNone_iff_eq_none.trans shownPos_eq_unknown_iff.symm
  · have hnone : effectivePosition b c.snap = none := Option.isNone_iff_eq_none.mp hn
    exact ⟨congrArg (Option.map EffPos.route) hnone, congrArg (Option.map EffPos.target) hnone⟩

end Sys2Proof.Machine
end
